-- ==== Sys2Proof/Word.lean ====
section
/-! DEFINITION. The word types and the names of the registers, pairs, conditions and operations that instructions mention. -/

namespace Sys2Proof

/-- The addressable unit, and the width of a general register (R6, R21). -/
abbrev Byte := BitVec 8

/-- An address, a register pair, PC or SP (R6, R23, R24, R26). -/
abbrev Word := BitVec 16

/-- The seven general registers (R21), in the order of the field `r8[i]` (R108); index 6 is `(HL)` and no register. -/
inductive Reg8 where
  | b | c | d | e | h | l | a
  deriving DecidableEq, Repr

/-- The pairs of the field `r16[p]` (R109). -/
inductive Reg16 where
  | bc | de | hl | sp
  deriving DecidableEq, Repr

/-- The pairs of the field `r16stk[p]` (R110). -/
inductive RegStk where
  | bc | de | hl | af
  deriving DecidableEq, Repr

/-- The condition codes (R29), in the order of the field cc (R111). -/
inductive Cond where
  | nz | z | nc | c
  deriving DecidableEq, Repr

/-- The ALU operations, in the order of the field y (R112). -/
inductive AluOp where
  | add | adc | sub | sbc | and | xor | or | cp
  deriving DecidableEq, Repr

/-- The extended rotates and shifts, in the order of the field y (R113). -/
inductive ShiftOp where
  | rlc | rrc | rl | rr | sla | sra | swap | srl
  deriving DecidableEq, Repr

end Sys2Proof
end

