-- ==== Sys2Proof/Config.lean ====
section
/-! DEFINITION. What one build of the hardware fixes and a step never changes: the three parameters the spec leaves open (R6, R38). Their default values are `standardConfig` in Decode.lean. The spec leaves no value free, so there is no opaque constant. -/

namespace Sys2Proof

/-- `INTERRUPT_DISPATCH` (R346): whether a step may enter an interrupt. -/
inductive InterruptDispatch where
  /-- IE and IF are storage only; the default. -/
  | none
  /-- Interrupts are entered as R349 says. -/
  | dmg
  deriving DecidableEq, Repr

/-- The parameters a model takes as arguments (R6): which descriptors exist (R119) and whether interrupts are dispatched (R346). -/
structure Config where
  /-- `PRESENT_PRIMARY`: the first bytes that have a descriptor. -/
  presentPrimary : Byte → Bool
  /-- `PRESENT_EXT`: the bytes after the prefix that have a descriptor. -/
  presentExt : Byte → Bool
  /-- `INTERRUPT_DISPATCH`. -/
  interruptDispatch : InterruptDispatch

end Sys2Proof
end

