-- ==== Sys2Proof/Form.lean ====
section
/-! DEFINITION. The forms of the opcode table: its "form" column with the fields of R108 to R115. One form is one instruction rule R<n>; the rows of the table that share a rule differ in its fields only. -/

namespace Sys2Proof

/-- An instruction as its rule describes it, with the rule's fields. `Instr.form` gives each row its form. -/
inductive Form where
  -- 8-bit loads and stores (41_load8.md)
  | ldRR (dst src : Reg8)           -- R140  LD r,r'
  | ldRN (dst : Reg8) (n : Byte)   -- R141  LD r,n
  | ldRAtHl (dst : Reg8)           -- R142  LD r,(HL)
  | ldAtHlR (src : Reg8)           -- R143  LD (HL),r
  | ldAtHlN (n : Byte)             -- R144  LD (HL),n
  | ldAAtBc                        -- R145  LD A,(BC)
  | ldAAtDe                        -- R146  LD A,(DE)
  | ldAtBcA                        -- R147  LD (BC),A
  | ldAtDeA                        -- R148  LD (DE),A
  | ldAAtNn (nn : Word)            -- R149  LD A,(nn)
  | ldAtNnA (nn : Word)            -- R150  LD (nn),A
  | ldhAAtC                        -- R151  LDH A,(C)
  | ldhAtCA                        -- R152  LDH (C),A
  | ldhAAtN (n : Byte)             -- R153  LDH A,(n)
  | ldhAtNA (n : Byte)             -- R154  LDH (n),A
  | ldAtHlIncA                     -- R155  LD (HL+),A
  | ldAtHlDecA                     -- R156  LD (HL-),A
  | ldAAtHlInc                     -- R157  LD A,(HL+)
  | ldAAtHlDec                     -- R158  LD A,(HL-)
  -- 16-bit loads and the stack (42_load16_stack.md)
  | ldRrNn (p : Reg16) (nn : Word) -- R172  LD rr,nn
  | ldAtNnSp (nn : Word)           -- R173  LD (nn),SP
  | ldSpHl                         -- R174  LD SP,HL
  | push (q : RegStk)              -- R175  PUSH rr
  | pop (q : RegStk)               -- R176, R177  POP rr, POP AF
  -- 8-bit arithmetic and logic (43_alu8.md)
  | aluR (op : AluOp) (r : Reg8)   -- R191, R194, R197, R200, R203, R206, R209, R212
  | aluAtHl (op : AluOp)           -- R192, R195, R198, R201, R204, R207, R210, R213
  | aluN (op : AluOp) (n : Byte)   -- R193, R196, R199, R202, R205, R208, R211, R214
  | incR (r : Reg8)                -- R215  INC r
  | incAtHl                        -- R216  INC (HL)
  | decR (r : Reg8)                -- R217  DEC r
  | decAtHl                        -- R218  DEC (HL)
  | daa                            -- R219
  | cpl                            -- R220
  | scf                            -- R221
  | ccf                            -- R222
  -- 16-bit arithmetic (44_alu16.md)
  | addHlRr (p : Reg16)            -- R231  ADD HL,rr
  | incRr (p : Reg16)              -- R232  INC rr
  | decRr (p : Reg16)              -- R233  DEC rr
  | addSpE (e : Byte)              -- R235  ADD SP,e
  | ldHlSpE (e : Byte)             -- R236  LD HL,SP+e
  -- rotates, shifts and bit operations (45_rotate_shift_bit.md)
  | rlca                           -- R250
  | rrca                           -- R251
  | rla                            -- R252
  | rra                            -- R253
  | shiftR (op : ShiftOp) (r : Reg8) -- R255, R257, R259, R261, R263, R265, R267, R269
  | shiftAtHl (op : ShiftOp)       -- R256, R258, R260, R262, R264, R266, R268, R270
  | bitR (k : Fin 8) (r : Reg8)    -- R271  BIT b,r
  | bitAtHl (k : Fin 8)            -- R272  BIT b,(HL)
  | resR (k : Fin 8) (r : Reg8)    -- R273  RES b,r
  | resAtHl (k : Fin 8)            -- R274  RES b,(HL)
  | setR (k : Fin 8) (r : Reg8)    -- R275  SET b,r
  | setAtHl (k : Fin 8)            -- R276  SET b,(HL)
  -- control transfer (46_control.md)
  | jpNn (nn : Word)               -- R290  JP nn
  | jpCcNn (cc : Cond) (nn : Word) -- R291  JP cc,nn
  | jpHl                           -- R292  JP HL
  | jrE (e : Byte)                 -- R293  JR e
  | jrCcE (cc : Cond) (e : Byte)   -- R294  JR cc,e
  | callNn (nn : Word)             -- R295  CALL nn
  | callCcNn (cc : Cond) (nn : Word) -- R296  CALL cc,nn
  | ret                            -- R297
  | retCc (cc : Cond)              -- R298  RET cc
  | reti                           -- R299
  | rst (t : Fin 8)                -- R300  RST, to address 8 * t
  -- system (47_system.md)
  | nop                            -- R320
  | halt                           -- R321
  | stop (x : Byte)                -- R323  the second byte is ignored
  | di                             -- R325
  | ei                             -- R326
  deriving DecidableEq, Repr

end Sys2Proof
end

