-- ==== Sys2Proof/Decode.lean ====
section
/-! DEFINITION. From bytes to instructions and back. The decoder reads the opcode maps of R116 and R118 row by row; the encoder builds each instruction from the bit fields of its own rule (R107 to R115 and the "Encoding" line of each instruction rule). The two rest on different tables of the spec, and a law says that they agree. -/

namespace Sys2Proof

/-! ### Bytes, words and the parameters' defaults -/

/-- The pair `{hi, lo}`: hi * 256 + lo (R7). -/
def joinBytes (hi lo : Byte) : Word := hi ++ lo

/-- Bits 15..8 of a word (R7). -/
def hiByte (w : Word) : Byte := w.extractLsb' 8 8

/-- Bits 7..0 of a word (R7). -/
def loByte (w : Word) : Byte := w.extractLsb' 0 8

/-- The two-byte-instruction prefix (R117). -/
def prefixByte : Byte := 0xCB

/-- The eleven first bytes the CPU does not define (R118). -/
def absentPrimary : List Byte :=
  [0xD3, 0xDB, 0xDD, 0xE3, 0xE4, 0xEB, 0xEC, 0xED, 0xF4, 0xFC, 0xFD]

/-- The default `PRESENT_PRIMARY`: every byte but the prefix and the eleven (R118). -/
def defaultPresentPrimary (b : Byte) : Bool :=
  b != prefixByte && !absentPrimary.contains b

/-- The default `PRESENT_EXT`: all 256 (R118). -/
def defaultPresentExt (_ : Byte) : Bool := true

/-- The parameters at their defaults (R6); log entries 1 and 2. -/
def standardConfig : Config where
  presentPrimary := defaultPresentPrimary
  presentExt := defaultPresentExt
  interruptDispatch := .none

/-! ### The opcode maps -/

/-- A cell of the primary map: no descriptor, or a routine and the immediate bytes that follow its opcode (R107). -/
inductive Entry where
  | absent
  | op (i : Instr)
  | imm8 (mk : Byte → Instr)
  | imm16 (mk : Word → Instr)

/-- Primary opcodes 0x00 to 0x0F (R116). -/
def primaryRow0 : List Entry := [
  .op .nop, .imm16 .ld_BC_nn, .op .ld_atBC_A, .op .inc_BC, .op .inc_B, .op .dec_B, .imm8 .ld_B_n, .op .rlca,
  .imm16 .ld_atnn_SP, .op .add_HL_BC, .op .ld_A_atBC, .op .dec_BC, .op .inc_C, .op .dec_C, .imm8 .ld_C_n, .op .rrca]

/-- Primary opcodes 0x10 to 0x1F (R116). -/
def primaryRow1 : List Entry := [
  .imm8 .stop, .imm16 .ld_DE_nn, .op .ld_atDE_A, .op .inc_DE, .op .inc_D, .op .dec_D, .imm8 .ld_D_n, .op .rla,
  .imm8 .jr_e, .op .add_HL_DE, .op .ld_A_atDE, .op .dec_DE, .op .inc_E, .op .dec_E, .imm8 .ld_E_n, .op .rra]

/-- Primary opcodes 0x20 to 0x2F (R116). -/
def primaryRow2 : List Entry := [
  .imm8 .jr_NZ_e, .imm16 .ld_HL_nn, .op .ld_atHLinc_A, .op .inc_HL, .op .inc_H, .op .dec_H, .imm8 .ld_H_n, .op .daa,
  .imm8 .jr_Z_e, .op .add_HL_HL, .op .ld_A_atHLinc, .op .dec_HL, .op .inc_L, .op .dec_L, .imm8 .ld_L_n, .op .cpl]

/-- Primary opcodes 0x30 to 0x3F (R116). -/
def primaryRow3 : List Entry := [
  .imm8 .jr_NC_e, .imm16 .ld_SP_nn, .op .ld_atHLdec_A, .op .inc_SP, .op .inc_atHL, .op .dec_atHL, .imm8 .ld_atHL_n, .op .scf,
  .imm8 .jr_C_e, .op .add_HL_SP, .op .ld_A_atHLdec, .op .dec_SP, .op .inc_A, .op .dec_A, .imm8 .ld_A_n, .op .ccf]

/-- Primary opcodes 0x40 to 0x4F (R116). -/
def primaryRow4 : List Entry := [
  .op .ld_B_B, .op .ld_B_C, .op .ld_B_D, .op .ld_B_E, .op .ld_B_H, .op .ld_B_L, .op .ld_B_atHL, .op .ld_B_A,
  .op .ld_C_B, .op .ld_C_C, .op .ld_C_D, .op .ld_C_E, .op .ld_C_H, .op .ld_C_L, .op .ld_C_atHL, .op .ld_C_A]

/-- Primary opcodes 0x50 to 0x5F (R116). -/
def primaryRow5 : List Entry := [
  .op .ld_D_B, .op .ld_D_C, .op .ld_D_D, .op .ld_D_E, .op .ld_D_H, .op .ld_D_L, .op .ld_D_atHL, .op .ld_D_A,
  .op .ld_E_B, .op .ld_E_C, .op .ld_E_D, .op .ld_E_E, .op .ld_E_H, .op .ld_E_L, .op .ld_E_atHL, .op .ld_E_A]

/-- Primary opcodes 0x60 to 0x6F (R116). -/
def primaryRow6 : List Entry := [
  .op .ld_H_B, .op .ld_H_C, .op .ld_H_D, .op .ld_H_E, .op .ld_H_H, .op .ld_H_L, .op .ld_H_atHL, .op .ld_H_A,
  .op .ld_L_B, .op .ld_L_C, .op .ld_L_D, .op .ld_L_E, .op .ld_L_H, .op .ld_L_L, .op .ld_L_atHL, .op .ld_L_A]

/-- Primary opcodes 0x70 to 0x7F (R116). -/
def primaryRow7 : List Entry := [
  .op .ld_atHL_B, .op .ld_atHL_C, .op .ld_atHL_D, .op .ld_atHL_E, .op .ld_atHL_H, .op .ld_atHL_L, .op .halt, .op .ld_atHL_A,
  .op .ld_A_B, .op .ld_A_C, .op .ld_A_D, .op .ld_A_E, .op .ld_A_H, .op .ld_A_L, .op .ld_A_atHL, .op .ld_A_A]

/-- Primary opcodes 0x80 to 0x8F (R116). -/
def primaryRow8 : List Entry := [
  .op .add_A_B, .op .add_A_C, .op .add_A_D, .op .add_A_E, .op .add_A_H, .op .add_A_L, .op .add_A_atHL, .op .add_A_A,
  .op .adc_A_B, .op .adc_A_C, .op .adc_A_D, .op .adc_A_E, .op .adc_A_H, .op .adc_A_L, .op .adc_A_atHL, .op .adc_A_A]

/-- Primary opcodes 0x90 to 0x9F (R116). -/
def primaryRow9 : List Entry := [
  .op .sub_B, .op .sub_C, .op .sub_D, .op .sub_E, .op .sub_H, .op .sub_L, .op .sub_atHL, .op .sub_A,
  .op .sbc_A_B, .op .sbc_A_C, .op .sbc_A_D, .op .sbc_A_E, .op .sbc_A_H, .op .sbc_A_L, .op .sbc_A_atHL, .op .sbc_A_A]

/-- Primary opcodes 0xA0 to 0xAF (R116). -/
def primaryRowA : List Entry := [
  .op .and_B, .op .and_C, .op .and_D, .op .and_E, .op .and_H, .op .and_L, .op .and_atHL, .op .and_A,
  .op .xor_B, .op .xor_C, .op .xor_D, .op .xor_E, .op .xor_H, .op .xor_L, .op .xor_atHL, .op .xor_A]

/-- Primary opcodes 0xB0 to 0xBF (R116). -/
def primaryRowB : List Entry := [
  .op .or_B, .op .or_C, .op .or_D, .op .or_E, .op .or_H, .op .or_L, .op .or_atHL, .op .or_A,
  .op .cp_B, .op .cp_C, .op .cp_D, .op .cp_E, .op .cp_H, .op .cp_L, .op .cp_atHL, .op .cp_A]

/-- Primary opcodes 0xC0 to 0xCF (R116). -/
def primaryRowC : List Entry := [
  .op .ret_NZ, .op .pop_BC, .imm16 .jp_NZ_nn, .imm16 .jp_nn, .imm16 .call_NZ_nn, .op .push_BC, .imm8 .add_A_n, .op .rst_00h,
  .op .ret_Z, .op .ret, .imm16 .jp_Z_nn, .absent, .imm16 .call_Z_nn, .imm16 .call_nn, .imm8 .adc_A_n, .op .rst_08h]

/-- Primary opcodes 0xD0 to 0xDF (R116). -/
def primaryRowD : List Entry := [
  .op .ret_NC, .op .pop_DE, .imm16 .jp_NC_nn, .absent, .imm16 .call_NC_nn, .op .push_DE, .imm8 .sub_n, .op .rst_10h,
  .op .ret_C, .op .reti, .imm16 .jp_C_nn, .absent, .imm16 .call_C_nn, .absent, .imm8 .sbc_A_n, .op .rst_18h]

/-- Primary opcodes 0xE0 to 0xEF (R116). -/
def primaryRowE : List Entry := [
  .imm8 .ldh_atn_A, .op .pop_HL, .op .ldh_atC_A, .absent, .absent, .op .push_HL, .imm8 .and_n, .op .rst_20h,
  .imm8 .add_SP_e, .op .jp_HL, .imm16 .ld_atnn_A, .absent, .absent, .absent, .imm8 .xor_n, .op .rst_28h]

/-- Primary opcodes 0xF0 to 0xFF (R116). -/
def primaryRowF : List Entry := [
  .imm8 .ldh_A_atn, .op .pop_AF, .op .ldh_A_atC, .op .di, .absent, .op .push_AF, .imm8 .or_n, .op .rst_30h,
  .imm8 .ld_HL_SPe, .op .ld_SP_HL, .imm16 .ld_A_atnn, .op .ei, .absent, .absent, .imm8 .cp_n, .op .rst_38h]

/-- The primary map of R116: row by the high digit, cell by the low digit of the opcode byte. The prefix 0xCB has no descriptor of its own (R117). -/
def primaryMap : List (List Entry) := [
  primaryRow0, primaryRow1, primaryRow2, primaryRow3, primaryRow4, primaryRow5, primaryRow6, primaryRow7,
  primaryRow8, primaryRow9, primaryRowA, primaryRowB, primaryRowC, primaryRowD, primaryRowE, primaryRowF]

/-- Extended opcodes 00 to 0F (R113). -/
def extRow0 : List Instr := [
  .rlc_B, .rlc_C, .rlc_D, .rlc_E, .rlc_H, .rlc_L, .rlc_atHL, .rlc_A,
  .rrc_B, .rrc_C, .rrc_D, .rrc_E, .rrc_H, .rrc_L, .rrc_atHL, .rrc_A]

/-- Extended opcodes 10 to 1F (R113). -/
def extRow1 : List Instr := [
  .rl_B, .rl_C, .rl_D, .rl_E, .rl_H, .rl_L, .rl_atHL, .rl_A,
  .rr_B, .rr_C, .rr_D, .rr_E, .rr_H, .rr_L, .rr_atHL, .rr_A]

/-- Extended opcodes 20 to 2F (R113). -/
def extRow2 : List Instr := [
  .sla_B, .sla_C, .sla_D, .sla_E, .sla_H, .sla_L, .sla_atHL, .sla_A,
  .sra_B, .sra_C, .sra_D, .sra_E, .sra_H, .sra_L, .sra_atHL, .sra_A]

/-- Extended opcodes 30 to 3F (R113). -/
def extRow3 : List Instr := [
  .swap_B, .swap_C, .swap_D, .swap_E, .swap_H, .swap_L, .swap_atHL, .swap_A,
  .srl_B, .srl_C, .srl_D, .srl_E, .srl_H, .srl_L, .srl_atHL, .srl_A]

/-- Extended opcodes 40 to 4F (R113). -/
def extRow4 : List Instr := [
  .bit_0_B, .bit_0_C, .bit_0_D, .bit_0_E, .bit_0_H, .bit_0_L, .bit_0_atHL, .bit_0_A,
  .bit_1_B, .bit_1_C, .bit_1_D, .bit_1_E, .bit_1_H, .bit_1_L, .bit_1_atHL, .bit_1_A]

/-- Extended opcodes 50 to 5F (R113). -/
def extRow5 : List Instr := [
  .bit_2_B, .bit_2_C, .bit_2_D, .bit_2_E, .bit_2_H, .bit_2_L, .bit_2_atHL, .bit_2_A,
  .bit_3_B, .bit_3_C, .bit_3_D, .bit_3_E, .bit_3_H, .bit_3_L, .bit_3_atHL, .bit_3_A]

/-- Extended opcodes 60 to 6F (R113). -/
def extRow6 : List Instr := [
  .bit_4_B, .bit_4_C, .bit_4_D, .bit_4_E, .bit_4_H, .bit_4_L, .bit_4_atHL, .bit_4_A,
  .bit_5_B, .bit_5_C, .bit_5_D, .bit_5_E, .bit_5_H, .bit_5_L, .bit_5_atHL, .bit_5_A]

/-- Extended opcodes 70 to 7F (R113). -/
def extRow7 : List Instr := [
  .bit_6_B, .bit_6_C, .bit_6_D, .bit_6_E, .bit_6_H, .bit_6_L, .bit_6_atHL, .bit_6_A,
  .bit_7_B, .bit_7_C, .bit_7_D, .bit_7_E, .bit_7_H, .bit_7_L, .bit_7_atHL, .bit_7_A]

/-- Extended opcodes 80 to 8F (R113). -/
def extRow8 : List Instr := [
  .res_0_B, .res_0_C, .res_0_D, .res_0_E, .res_0_H, .res_0_L, .res_0_atHL, .res_0_A,
  .res_1_B, .res_1_C, .res_1_D, .res_1_E, .res_1_H, .res_1_L, .res_1_atHL, .res_1_A]

/-- Extended opcodes 90 to 9F (R113). -/
def extRow9 : List Instr := [
  .res_2_B, .res_2_C, .res_2_D, .res_2_E, .res_2_H, .res_2_L, .res_2_atHL, .res_2_A,
  .res_3_B, .res_3_C, .res_3_D, .res_3_E, .res_3_H, .res_3_L, .res_3_atHL, .res_3_A]

/-- Extended opcodes A0 to AF (R113). -/
def extRowA : List Instr := [
  .res_4_B, .res_4_C, .res_4_D, .res_4_E, .res_4_H, .res_4_L, .res_4_atHL, .res_4_A,
  .res_5_B, .res_5_C, .res_5_D, .res_5_E, .res_5_H, .res_5_L, .res_5_atHL, .res_5_A]

/-- Extended opcodes B0 to BF (R113). -/
def extRowB : List Instr := [
  .res_6_B, .res_6_C, .res_6_D, .res_6_E, .res_6_H, .res_6_L, .res_6_atHL, .res_6_A,
  .res_7_B, .res_7_C, .res_7_D, .res_7_E, .res_7_H, .res_7_L, .res_7_atHL, .res_7_A]

/-- Extended opcodes C0 to CF (R113). -/
def extRowC : List Instr := [
  .set_0_B, .set_0_C, .set_0_D, .set_0_E, .set_0_H, .set_0_L, .set_0_atHL, .set_0_A,
  .set_1_B, .set_1_C, .set_1_D, .set_1_E, .set_1_H, .set_1_L, .set_1_atHL, .set_1_A]

/-- Extended opcodes D0 to DF (R113). -/
def extRowD : List Instr := [
  .set_2_B, .set_2_C, .set_2_D, .set_2_E, .set_2_H, .set_2_L, .set_2_atHL, .set_2_A,
  .set_3_B, .set_3_C, .set_3_D, .set_3_E, .set_3_H, .set_3_L, .set_3_atHL, .set_3_A]

/-- Extended opcodes E0 to EF (R113). -/
def extRowE : List Instr := [
  .set_4_B, .set_4_C, .set_4_D, .set_4_E, .set_4_H, .set_4_L, .set_4_atHL, .set_4_A,
  .set_5_B, .set_5_C, .set_5_D, .set_5_E, .set_5_H, .set_5_L, .set_5_atHL, .set_5_A]

/-- Extended opcodes F0 to FF (R113). -/
def extRowF : List Instr := [
  .set_6_B, .set_6_C, .set_6_D, .set_6_E, .set_6_H, .set_6_L, .set_6_atHL, .set_6_A,
  .set_7_B, .set_7_C, .set_7_D, .set_7_E, .set_7_H, .set_7_L, .set_7_atHL, .set_7_A]

/-- The extended map (R113, R118): row by the high digit, cell by the low digit of the byte after the prefix. -/
def extMap : List (List Instr) := [
  extRow0, extRow1, extRow2, extRow3, extRow4, extRow5, extRow6, extRow7,
  extRow8, extRow9, extRowA, extRowB, extRowC, extRowD, extRowE, extRowF]

/-! ### The decoder -/

/-- What the two dispatch tables answer (R124): a routine, or UnimplementedOpcode with its bytes (R341). -/
inductive Decoded where
  | instr (i : Instr)
  | unimplemented (opcode : Byte) (extended : Option Byte)
  deriving DecidableEq, Repr

/-- The cell at a byte's two digits. -/
def cellAt {α : Type} (map : List (List α)) (b : Byte) : Option α :=
  (map[b.toNat / 16]?).bind (·[b.toNat % 16]?)

/-- Primary dispatch (R102): `b1` and `b2` are the bytes after the opcode, the low byte of a 16-bit immediate first (R106). -/
def decodePrimary (cfg : Config) (b0 b1 b2 : Byte) : Decoded :=
  if cfg.presentPrimary b0 then
    match cellAt primaryMap b0 with
    | some (.op i) => .instr i
    | some (.imm8 mk) => .instr (mk b1)
    | some (.imm16 mk) => .instr (mk (joinBytes b2 b1))
    | _ => .unimplemented b0 none
  else .unimplemented b0 none

/-- Extended dispatch on the byte after the prefix (R103). -/
def decodeExt (cfg : Config) (b1 : Byte) : Decoded :=
  if cfg.presentExt b1 then
    match cellAt extMap b1 with
    | some i => .instr i
    | none => .unimplemented prefixByte (some b1)
  else .unimplemented prefixByte (some b1)

/-- The instruction that begins with `b0`, given the two bytes after it (R101). Total: it finds a row or names the bytes that have none (R124). -/
def decode (cfg : Config) (b0 b1 b2 : Byte) : Decoded :=
  if b0 = prefixByte then decodeExt cfg b1 else decodePrimary cfg b0 b1 b2

/-- The three bytes that `w` stands for, as the opcode table numbers a row's bits: bit 0 is the least significant bit of the first byte, except that an X2 row's 16-bit match is {first, second} with the prefix on top (R107); log entry 5. -/
def tableBytes (nbits w : Nat) : Byte × Byte × Byte :=
  let v := w % 2 ^ nbits
  if nbits = 16 ∧ v / 256 = 0xCB then (prefixByte, BitVec.ofNat 8 v, 0)
  else (BitVec.ofNat 8 v, BitVec.ofNat 8 (v / 256), BitVec.ofNat 8 (v / 65536))

/-- The instruction the decoder reads from an opcode-table word, under the default parameters. -/
def decodeTableWord (nbits w : Nat) : Option Instr :=
  let t := tableBytes nbits w
  match decode standardConfig t.1 t.2.1 t.2.2 with
  | .instr i => some i
  | .unimplemented _ _ => none

/-! ### The forms and the encoder -/

/-- The form of each row: the table's columns "form" and "source_fields". -/
def Instr.form : Instr → Form
  | .nop => .nop
  | .ld_BC_nn nn => .ldRrNn .bc nn
  | .ld_atBC_A => .ldAtBcA
  | .inc_BC => .incRr .bc
  | .inc_B => .incR .b
  | .dec_B => .decR .b
  | .ld_B_n n => .ldRN .b n
  | .rlca => .rlca
  | .ld_atnn_SP nn => .ldAtNnSp nn
  | .add_HL_BC => .addHlRr .bc
  | .ld_A_atBC => .ldAAtBc
  | .dec_BC => .decRr .bc
  | .inc_C => .incR .c
  | .dec_C => .decR .c
  | .ld_C_n n => .ldRN .c n
  | .rrca => .rrca
  | .stop x => .stop x
  | .ld_DE_nn nn => .ldRrNn .de nn
  | .ld_atDE_A => .ldAtDeA
  | .inc_DE => .incRr .de
  | .inc_D => .incR .d
  | .dec_D => .decR .d
  | .ld_D_n n => .ldRN .d n
  | .rla => .rla
  | .jr_e e => .jrE e
  | .add_HL_DE => .addHlRr .de
  | .ld_A_atDE => .ldAAtDe
  | .dec_DE => .decRr .de
  | .inc_E => .incR .e
  | .dec_E => .decR .e
  | .ld_E_n n => .ldRN .e n
  | .rra => .rra
  | .jr_NZ_e e => .jrCcE .nz e
  | .ld_HL_nn nn => .ldRrNn .hl nn
  | .ld_atHLinc_A => .ldAtHlIncA
  | .inc_HL => .incRr .hl
  | .inc_H => .incR .h
  | .dec_H => .decR .h
  | .ld_H_n n => .ldRN .h n
  | .daa => .daa
  | .jr_Z_e e => .jrCcE .z e
  | .add_HL_HL => .addHlRr .hl
  | .ld_A_atHLinc => .ldAAtHlInc
  | .dec_HL => .decRr .hl
  | .inc_L => .incR .l
  | .dec_L => .decR .l
  | .ld_L_n n => .ldRN .l n
  | .cpl => .cpl
  | .jr_NC_e e => .jrCcE .nc e
  | .ld_SP_nn nn => .ldRrNn .sp nn
  | .ld_atHLdec_A => .ldAtHlDecA
  | .inc_SP => .incRr .sp
  | .inc_atHL => .incAtHl
  | .dec_atHL => .decAtHl
  | .ld_atHL_n n => .ldAtHlN n
  | .scf => .scf
  | .jr_C_e e => .jrCcE .c e
  | .add_HL_SP => .addHlRr .sp
  | .ld_A_atHLdec => .ldAAtHlDec
  | .dec_SP => .decRr .sp
  | .inc_A => .incR .a
  | .dec_A => .decR .a
  | .ld_A_n n => .ldRN .a n
  | .ccf => .ccf
  | .ld_B_B => .ldRR .b .b
  | .ld_B_C => .ldRR .b .c
  | .ld_B_D => .ldRR .b .d
  | .ld_B_E => .ldRR .b .e
  | .ld_B_H => .ldRR .b .h
  | .ld_B_L => .ldRR .b .l
  | .ld_B_atHL => .ldRAtHl .b
  | .ld_B_A => .ldRR .b .a
  | .ld_C_B => .ldRR .c .b
  | .ld_C_C => .ldRR .c .c
  | .ld_C_D => .ldRR .c .d
  | .ld_C_E => .ldRR .c .e
  | .ld_C_H => .ldRR .c .h
  | .ld_C_L => .ldRR .c .l
  | .ld_C_atHL => .ldRAtHl .c
  | .ld_C_A => .ldRR .c .a
  | .ld_D_B => .ldRR .d .b
  | .ld_D_C => .ldRR .d .c
  | .ld_D_D => .ldRR .d .d
  | .ld_D_E => .ldRR .d .e
  | .ld_D_H => .ldRR .d .h
  | .ld_D_L => .ldRR .d .l
  | .ld_D_atHL => .ldRAtHl .d
  | .ld_D_A => .ldRR .d .a
  | .ld_E_B => .ldRR .e .b
  | .ld_E_C => .ldRR .e .c
  | .ld_E_D => .ldRR .e .d
  | .ld_E_E => .ldRR .e .e
  | .ld_E_H => .ldRR .e .h
  | .ld_E_L => .ldRR .e .l
  | .ld_E_atHL => .ldRAtHl .e
  | .ld_E_A => .ldRR .e .a
  | .ld_H_B => .ldRR .h .b
  | .ld_H_C => .ldRR .h .c
  | .ld_H_D => .ldRR .h .d
  | .ld_H_E => .ldRR .h .e
  | .ld_H_H => .ldRR .h .h
  | .ld_H_L => .ldRR .h .l
  | .ld_H_atHL => .ldRAtHl .h
  | .ld_H_A => .ldRR .h .a
  | .ld_L_B => .ldRR .l .b
  | .ld_L_C => .ldRR .l .c
  | .ld_L_D => .ldRR .l .d
  | .ld_L_E => .ldRR .l .e
  | .ld_L_H => .ldRR .l .h
  | .ld_L_L => .ldRR .l .l
  | .ld_L_atHL => .ldRAtHl .l
  | .ld_L_A => .ldRR .l .a
  | .ld_atHL_B => .ldAtHlR .b
  | .ld_atHL_C => .ldAtHlR .c
  | .ld_atHL_D => .ldAtHlR .d
  | .ld_atHL_E => .ldAtHlR .e
  | .ld_atHL_H => .ldAtHlR .h
  | .ld_atHL_L => .ldAtHlR .l
  | .halt => .halt
  | .ld_atHL_A => .ldAtHlR .a
  | .ld_A_B => .ldRR .a .b
  | .ld_A_C => .ldRR .a .c
  | .ld_A_D => .ldRR .a .d
  | .ld_A_E => .ldRR .a .e
  | .ld_A_H => .ldRR .a .h
  | .ld_A_L => .ldRR .a .l
  | .ld_A_atHL => .ldRAtHl .a
  | .ld_A_A => .ldRR .a .a
  | .add_A_B => .aluR .add .b
  | .add_A_C => .aluR .add .c
  | .add_A_D => .aluR .add .d
  | .add_A_E => .aluR .add .e
  | .add_A_H => .aluR .add .h
  | .add_A_L => .aluR .add .l
  | .add_A_atHL => .aluAtHl .add
  | .add_A_A => .aluR .add .a
  | .adc_A_B => .aluR .adc .b
  | .adc_A_C => .aluR .adc .c
  | .adc_A_D => .aluR .adc .d
  | .adc_A_E => .aluR .adc .e
  | .adc_A_H => .aluR .adc .h
  | .adc_A_L => .aluR .adc .l
  | .adc_A_atHL => .aluAtHl .adc
  | .adc_A_A => .aluR .adc .a
  | .sub_B => .aluR .sub .b
  | .sub_C => .aluR .sub .c
  | .sub_D => .aluR .sub .d
  | .sub_E => .aluR .sub .e
  | .sub_H => .aluR .sub .h
  | .sub_L => .aluR .sub .l
  | .sub_atHL => .aluAtHl .sub
  | .sub_A => .aluR .sub .a
  | .sbc_A_B => .aluR .sbc .b
  | .sbc_A_C => .aluR .sbc .c
  | .sbc_A_D => .aluR .sbc .d
  | .sbc_A_E => .aluR .sbc .e
  | .sbc_A_H => .aluR .sbc .h
  | .sbc_A_L => .aluR .sbc .l
  | .sbc_A_atHL => .aluAtHl .sbc
  | .sbc_A_A => .aluR .sbc .a
  | .and_B => .aluR .and .b
  | .and_C => .aluR .and .c
  | .and_D => .aluR .and .d
  | .and_E => .aluR .and .e
  | .and_H => .aluR .and .h
  | .and_L => .aluR .and .l
  | .and_atHL => .aluAtHl .and
  | .and_A => .aluR .and .a
  | .xor_B => .aluR .xor .b
  | .xor_C => .aluR .xor .c
  | .xor_D => .aluR .xor .d
  | .xor_E => .aluR .xor .e
  | .xor_H => .aluR .xor .h
  | .xor_L => .aluR .xor .l
  | .xor_atHL => .aluAtHl .xor
  | .xor_A => .aluR .xor .a
  | .or_B => .aluR .or .b
  | .or_C => .aluR .or .c
  | .or_D => .aluR .or .d
  | .or_E => .aluR .or .e
  | .or_H => .aluR .or .h
  | .or_L => .aluR .or .l
  | .or_atHL => .aluAtHl .or
  | .or_A => .aluR .or .a
  | .cp_B => .aluR .cp .b
  | .cp_C => .aluR .cp .c
  | .cp_D => .aluR .cp .d
  | .cp_E => .aluR .cp .e
  | .cp_H => .aluR .cp .h
  | .cp_L => .aluR .cp .l
  | .cp_atHL => .aluAtHl .cp
  | .cp_A => .aluR .cp .a
  | .ret_NZ => .retCc .nz
  | .pop_BC => .pop .bc
  | .jp_NZ_nn nn => .jpCcNn .nz nn
  | .jp_nn nn => .jpNn nn
  | .call_NZ_nn nn => .callCcNn .nz nn
  | .push_BC => .push .bc
  | .add_A_n n => .aluN .add n
  | .rst_00h => .rst 0
  | .ret_Z => .retCc .z
  | .ret => .ret
  | .jp_Z_nn nn => .jpCcNn .z nn
  | .call_Z_nn nn => .callCcNn .z nn
  | .call_nn nn => .callNn nn
  | .adc_A_n n => .aluN .adc n
  | .rst_08h => .rst 1
  | .ret_NC => .retCc .nc
  | .pop_DE => .pop .de
  | .jp_NC_nn nn => .jpCcNn .nc nn
  | .call_NC_nn nn => .callCcNn .nc nn
  | .push_DE => .push .de
  | .sub_n n => .aluN .sub n
  | .rst_10h => .rst 2
  | .ret_C => .retCc .c
  | .reti => .reti
  | .jp_C_nn nn => .jpCcNn .c nn
  | .call_C_nn nn => .callCcNn .c nn
  | .sbc_A_n n => .aluN .sbc n
  | .rst_18h => .rst 3
  | .ldh_atn_A n => .ldhAtNA n
  | .pop_HL => .pop .hl
  | .ldh_atC_A => .ldhAtCA
  | .push_HL => .push .hl
  | .and_n n => .aluN .and n
  | .rst_20h => .rst 4
  | .add_SP_e e => .addSpE e
  | .jp_HL => .jpHl
  | .ld_atnn_A nn => .ldAtNnA nn
  | .xor_n n => .aluN .xor n
  | .rst_28h => .rst 5
  | .ldh_A_atn n => .ldhAAtN n
  | .pop_AF => .pop .af
  | .ldh_A_atC => .ldhAAtC
  | .di => .di
  | .push_AF => .push .af
  | .or_n n => .aluN .or n
  | .rst_30h => .rst 6
  | .ld_HL_SPe e => .ldHlSpE e
  | .ld_SP_HL => .ldSpHl
  | .ld_A_atnn nn => .ldAAtNn nn
  | .ei => .ei
  | .cp_n n => .aluN .cp n
  | .rst_38h => .rst 7
  | .rlc_B => .shiftR .rlc .b
  | .rlc_C => .shiftR .rlc .c
  | .rlc_D => .shiftR .rlc .d
  | .rlc_E => .shiftR .rlc .e
  | .rlc_H => .shiftR .rlc .h
  | .rlc_L => .shiftR .rlc .l
  | .rlc_atHL => .shiftAtHl .rlc
  | .rlc_A => .shiftR .rlc .a
  | .rrc_B => .shiftR .rrc .b
  | .rrc_C => .shiftR .rrc .c
  | .rrc_D => .shiftR .rrc .d
  | .rrc_E => .shiftR .rrc .e
  | .rrc_H => .shiftR .rrc .h
  | .rrc_L => .shiftR .rrc .l
  | .rrc_atHL => .shiftAtHl .rrc
  | .rrc_A => .shiftR .rrc .a
  | .rl_B => .shiftR .rl .b
  | .rl_C => .shiftR .rl .c
  | .rl_D => .shiftR .rl .d
  | .rl_E => .shiftR .rl .e
  | .rl_H => .shiftR .rl .h
  | .rl_L => .shiftR .rl .l
  | .rl_atHL => .shiftAtHl .rl
  | .rl_A => .shiftR .rl .a
  | .rr_B => .shiftR .rr .b
  | .rr_C => .shiftR .rr .c
  | .rr_D => .shiftR .rr .d
  | .rr_E => .shiftR .rr .e
  | .rr_H => .shiftR .rr .h
  | .rr_L => .shiftR .rr .l
  | .rr_atHL => .shiftAtHl .rr
  | .rr_A => .shiftR .rr .a
  | .sla_B => .shiftR .sla .b
  | .sla_C => .shiftR .sla .c
  | .sla_D => .shiftR .sla .d
  | .sla_E => .shiftR .sla .e
  | .sla_H => .shiftR .sla .h
  | .sla_L => .shiftR .sla .l
  | .sla_atHL => .shiftAtHl .sla
  | .sla_A => .shiftR .sla .a
  | .sra_B => .shiftR .sra .b
  | .sra_C => .shiftR .sra .c
  | .sra_D => .shiftR .sra .d
  | .sra_E => .shiftR .sra .e
  | .sra_H => .shiftR .sra .h
  | .sra_L => .shiftR .sra .l
  | .sra_atHL => .shiftAtHl .sra
  | .sra_A => .shiftR .sra .a
  | .swap_B => .shiftR .swap .b
  | .swap_C => .shiftR .swap .c
  | .swap_D => .shiftR .swap .d
  | .swap_E => .shiftR .swap .e
  | .swap_H => .shiftR .swap .h
  | .swap_L => .shiftR .swap .l
  | .swap_atHL => .shiftAtHl .swap
  | .swap_A => .shiftR .swap .a
  | .srl_B => .shiftR .srl .b
  | .srl_C => .shiftR .srl .c
  | .srl_D => .shiftR .srl .d
  | .srl_E => .shiftR .srl .e
  | .srl_H => .shiftR .srl .h
  | .srl_L => .shiftR .srl .l
  | .srl_atHL => .shiftAtHl .srl
  | .srl_A => .shiftR .srl .a
  | .bit_0_B => .bitR 0 .b
  | .bit_0_C => .bitR 0 .c
  | .bit_0_D => .bitR 0 .d
  | .bit_0_E => .bitR 0 .e
  | .bit_0_H => .bitR 0 .h
  | .bit_0_L => .bitR 0 .l
  | .bit_0_atHL => .bitAtHl 0
  | .bit_0_A => .bitR 0 .a
  | .bit_1_B => .bitR 1 .b
  | .bit_1_C => .bitR 1 .c
  | .bit_1_D => .bitR 1 .d
  | .bit_1_E => .bitR 1 .e
  | .bit_1_H => .bitR 1 .h
  | .bit_1_L => .bitR 1 .l
  | .bit_1_atHL => .bitAtHl 1
  | .bit_1_A => .bitR 1 .a
  | .bit_2_B => .bitR 2 .b
  | .bit_2_C => .bitR 2 .c
  | .bit_2_D => .bitR 2 .d
  | .bit_2_E => .bitR 2 .e
  | .bit_2_H => .bitR 2 .h
  | .bit_2_L => .bitR 2 .l
  | .bit_2_atHL => .bitAtHl 2
  | .bit_2_A => .bitR 2 .a
  | .bit_3_B => .bitR 3 .b
  | .bit_3_C => .bitR 3 .c
  | .bit_3_D => .bitR 3 .d
  | .bit_3_E => .bitR 3 .e
  | .bit_3_H => .bitR 3 .h
  | .bit_3_L => .bitR 3 .l
  | .bit_3_atHL => .bitAtHl 3
  | .bit_3_A => .bitR 3 .a
  | .bit_4_B => .bitR 4 .b
  | .bit_4_C => .bitR 4 .c
  | .bit_4_D => .bitR 4 .d
  | .bit_4_E => .bitR 4 .e
  | .bit_4_H => .bitR 4 .h
  | .bit_4_L => .bitR 4 .l
  | .bit_4_atHL => .bitAtHl 4
  | .bit_4_A => .bitR 4 .a
  | .bit_5_B => .bitR 5 .b
  | .bit_5_C => .bitR 5 .c
  | .bit_5_D => .bitR 5 .d
  | .bit_5_E => .bitR 5 .e
  | .bit_5_H => .bitR 5 .h
  | .bit_5_L => .bitR 5 .l
  | .bit_5_atHL => .bitAtHl 5
  | .bit_5_A => .bitR 5 .a
  | .bit_6_B => .bitR 6 .b
  | .bit_6_C => .bitR 6 .c
  | .bit_6_D => .bitR 6 .d
  | .bit_6_E => .bitR 6 .e
  | .bit_6_H => .bitR 6 .h
  | .bit_6_L => .bitR 6 .l
  | .bit_6_atHL => .bitAtHl 6
  | .bit_6_A => .bitR 6 .a
  | .bit_7_B => .bitR 7 .b
  | .bit_7_C => .bitR 7 .c
  | .bit_7_D => .bitR 7 .d
  | .bit_7_E => .bitR 7 .e
  | .bit_7_H => .bitR 7 .h
  | .bit_7_L => .bitR 7 .l
  | .bit_7_atHL => .bitAtHl 7
  | .bit_7_A => .bitR 7 .a
  | .res_0_B => .resR 0 .b
  | .res_0_C => .resR 0 .c
  | .res_0_D => .resR 0 .d
  | .res_0_E => .resR 0 .e
  | .res_0_H => .resR 0 .h
  | .res_0_L => .resR 0 .l
  | .res_0_atHL => .resAtHl 0
  | .res_0_A => .resR 0 .a
  | .res_1_B => .resR 1 .b
  | .res_1_C => .resR 1 .c
  | .res_1_D => .resR 1 .d
  | .res_1_E => .resR 1 .e
  | .res_1_H => .resR 1 .h
  | .res_1_L => .resR 1 .l
  | .res_1_atHL => .resAtHl 1
  | .res_1_A => .resR 1 .a
  | .res_2_B => .resR 2 .b
  | .res_2_C => .resR 2 .c
  | .res_2_D => .resR 2 .d
  | .res_2_E => .resR 2 .e
  | .res_2_H => .resR 2 .h
  | .res_2_L => .resR 2 .l
  | .res_2_atHL => .resAtHl 2
  | .res_2_A => .resR 2 .a
  | .res_3_B => .resR 3 .b
  | .res_3_C => .resR 3 .c
  | .res_3_D => .resR 3 .d
  | .res_3_E => .resR 3 .e
  | .res_3_H => .resR 3 .h
  | .res_3_L => .resR 3 .l
  | .res_3_atHL => .resAtHl 3
  | .res_3_A => .resR 3 .a
  | .res_4_B => .resR 4 .b
  | .res_4_C => .resR 4 .c
  | .res_4_D => .resR 4 .d
  | .res_4_E => .resR 4 .e
  | .res_4_H => .resR 4 .h
  | .res_4_L => .resR 4 .l
  | .res_4_atHL => .resAtHl 4
  | .res_4_A => .resR 4 .a
  | .res_5_B => .resR 5 .b
  | .res_5_C => .resR 5 .c
  | .res_5_D => .resR 5 .d
  | .res_5_E => .resR 5 .e
  | .res_5_H => .resR 5 .h
  | .res_5_L => .resR 5 .l
  | .res_5_atHL => .resAtHl 5
  | .res_5_A => .resR 5 .a
  | .res_6_B => .resR 6 .b
  | .res_6_C => .resR 6 .c
  | .res_6_D => .resR 6 .d
  | .res_6_E => .resR 6 .e
  | .res_6_H => .resR 6 .h
  | .res_6_L => .resR 6 .l
  | .res_6_atHL => .resAtHl 6
  | .res_6_A => .resR 6 .a
  | .res_7_B => .resR 7 .b
  | .res_7_C => .resR 7 .c
  | .res_7_D => .resR 7 .d
  | .res_7_E => .resR 7 .e
  | .res_7_H => .resR 7 .h
  | .res_7_L => .resR 7 .l
  | .res_7_atHL => .resAtHl 7
  | .res_7_A => .resR 7 .a
  | .set_0_B => .setR 0 .b
  | .set_0_C => .setR 0 .c
  | .set_0_D => .setR 0 .d
  | .set_0_E => .setR 0 .e
  | .set_0_H => .setR 0 .h
  | .set_0_L => .setR 0 .l
  | .set_0_atHL => .setAtHl 0
  | .set_0_A => .setR 0 .a
  | .set_1_B => .setR 1 .b
  | .set_1_C => .setR 1 .c
  | .set_1_D => .setR 1 .d
  | .set_1_E => .setR 1 .e
  | .set_1_H => .setR 1 .h
  | .set_1_L => .setR 1 .l
  | .set_1_atHL => .setAtHl 1
  | .set_1_A => .setR 1 .a
  | .set_2_B => .setR 2 .b
  | .set_2_C => .setR 2 .c
  | .set_2_D => .setR 2 .d
  | .set_2_E => .setR 2 .e
  | .set_2_H => .setR 2 .h
  | .set_2_L => .setR 2 .l
  | .set_2_atHL => .setAtHl 2
  | .set_2_A => .setR 2 .a
  | .set_3_B => .setR 3 .b
  | .set_3_C => .setR 3 .c
  | .set_3_D => .setR 3 .d
  | .set_3_E => .setR 3 .e
  | .set_3_H => .setR 3 .h
  | .set_3_L => .setR 3 .l
  | .set_3_atHL => .setAtHl 3
  | .set_3_A => .setR 3 .a
  | .set_4_B => .setR 4 .b
  | .set_4_C => .setR 4 .c
  | .set_4_D => .setR 4 .d
  | .set_4_E => .setR 4 .e
  | .set_4_H => .setR 4 .h
  | .set_4_L => .setR 4 .l
  | .set_4_atHL => .setAtHl 4
  | .set_4_A => .setR 4 .a
  | .set_5_B => .setR 5 .b
  | .set_5_C => .setR 5 .c
  | .set_5_D => .setR 5 .d
  | .set_5_E => .setR 5 .e
  | .set_5_H => .setR 5 .h
  | .set_5_L => .setR 5 .l
  | .set_5_atHL => .setAtHl 5
  | .set_5_A => .setR 5 .a
  | .set_6_B => .setR 6 .b
  | .set_6_C => .setR 6 .c
  | .set_6_D => .setR 6 .d
  | .set_6_E => .setR 6 .e
  | .set_6_H => .setR 6 .h
  | .set_6_L => .setR 6 .l
  | .set_6_atHL => .setAtHl 6
  | .set_6_A => .setR 6 .a
  | .set_7_B => .setR 7 .b
  | .set_7_C => .setR 7 .c
  | .set_7_D => .setR 7 .d
  | .set_7_E => .setR 7 .e
  | .set_7_H => .setR 7 .h
  | .set_7_L => .setR 7 .l
  | .set_7_atHL => .setAtHl 7
  | .set_7_A => .setR 7 .a

/-- The field value that selects a register: r8[i] (R108). -/
def Reg8.code : Reg8 → BitVec 3
  | .b => 0 | .c => 1 | .d => 2 | .e => 3 | .h => 4 | .l => 5 | .a => 7

/-- The field value of the memory operand (HL) (R108). -/
def atHlCode : BitVec 3 := 6

/-- The field value that selects a pair: r16[p] (R109). -/
def Reg16.code : Reg16 → BitVec 2
  | .bc => 0 | .de => 1 | .hl => 2 | .sp => 3

/-- The field value that selects a stack pair: r16stk[p] (R110). -/
def RegStk.code : RegStk → BitVec 2
  | .bc => 0 | .de => 1 | .hl => 2 | .af => 3

/-- The field value of a condition (R29, R111). -/
def Cond.code : Cond → BitVec 2
  | .nz => 0 | .z => 1 | .nc => 2 | .c => 3

/-- The field value of an ALU operation (R112). -/
def AluOp.code : AluOp → BitVec 3
  | .add => 0 | .adc => 1 | .sub => 2 | .sbc => 3 | .and => 4 | .xor => 5 | .or => 6 | .cp => 7

/-- The field value of an extended rotate or shift (R113). -/
def ShiftOp.code : ShiftOp → BitVec 3
  | .rlc => 0 | .rrc => 1 | .rl => 2 | .rr => 3 | .sla => 4 | .sra => 5 | .swap => 6 | .srl => 7

/-- The field value of a bit index or a restart vector (R113, R114). -/
def fieldOf (k : Fin 8) : BitVec 3 := BitVec.ofFin k

/-- An opcode byte from its fields x, y, z (R108). -/
def opXYZ (x : BitVec 2) (y z : BitVec 3) : Byte := x ++ y ++ z

/-- An opcode byte from its fields x, p and the four bits {q, z} (R108). -/
def opXPQZ (x p : BitVec 2) (qz : BitVec 4) : Byte := x ++ p ++ qz

/-- An opcode byte from a 3-bit head, a condition and a 3-bit tail (R111). -/
def opCc (head : BitVec 3) (cc : BitVec 2) (tail : BitVec 3) : Byte := head ++ cc ++ tail

/-- A 16-bit immediate as it stands in the instruction stream, low byte first (R106). -/
def immBytes (nn : Word) : List Byte := [loByte nn, hiByte nn]

/-- The bytes of an instruction, first byte first, from the "Encoding" line of its rule. -/
def encodeForm : Form → List Byte
  | .ldRR dst src => [opXYZ 0b01 dst.code src.code]
  | .ldRN dst n => [opXYZ 0b00 dst.code 0b110, n]
  | .ldRAtHl dst => [opXYZ 0b01 dst.code 0b110]
  | .ldAtHlR src => [opXYZ 0b01 0b110 src.code]
  | .ldAtHlN n => [0b00110110, n]
  | .ldAAtBc => [0b00001010]
  | .ldAAtDe => [0b00011010]
  | .ldAtBcA => [0b00000010]
  | .ldAtDeA => [0b00010010]
  | .ldAAtNn nn => 0b11111010 :: immBytes nn
  | .ldAtNnA nn => 0b11101010 :: immBytes nn
  | .ldhAAtC => [0b11110010]
  | .ldhAtCA => [0b11100010]
  | .ldhAAtN n => [0b11110000, n]
  | .ldhAtNA n => [0b11100000, n]
  | .ldAtHlIncA => [0b00100010]
  | .ldAtHlDecA => [0b00110010]
  | .ldAAtHlInc => [0b00101010]
  | .ldAAtHlDec => [0b00111010]
  | .ldRrNn p nn => opXPQZ 0b00 p.code 0b0001 :: immBytes nn
  | .ldAtNnSp nn => 0b00001000 :: immBytes nn
  | .ldSpHl => [0b11111001]
  | .push q => [opXPQZ 0b11 q.code 0b0101]
  | .pop q => [opXPQZ 0b11 q.code 0b0001]
  | .aluR op r => [opXYZ 0b10 op.code r.code]
  | .aluAtHl op => [opXYZ 0b10 op.code 0b110]
  | .aluN op n => [opXYZ 0b11 op.code 0b110, n]
  | .incR r => [opXYZ 0b00 r.code 0b100]
  | .incAtHl => [0b00110100]
  | .decR r => [opXYZ 0b00 r.code 0b101]
  | .decAtHl => [0b00110101]
  | .daa => [0b00100111]
  | .cpl => [0b00101111]
  | .scf => [0b00110111]
  | .ccf => [0b00111111]
  | .addHlRr p => [opXPQZ 0b00 p.code 0b1001]
  | .incRr p => [opXPQZ 0b00 p.code 0b0011]
  | .decRr p => [opXPQZ 0b00 p.code 0b1011]
  | .addSpE e => [0b11101000, e]
  | .ldHlSpE e => [0b11111000, e]
  | .rlca => [0b00000111]
  | .rrca => [0b00001111]
  | .rla => [0b00010111]
  | .rra => [0b00011111]
  | .shiftR op r => [0b11001011, opXYZ 0b00 op.code r.code]
  | .shiftAtHl op => [0b11001011, opXYZ 0b00 op.code atHlCode]
  | .bitR k r => [0b11001011, opXYZ 0b01 (fieldOf k) r.code]
  | .bitAtHl k => [0b11001011, opXYZ 0b01 (fieldOf k) atHlCode]
  | .resR k r => [0b11001011, opXYZ 0b10 (fieldOf k) r.code]
  | .resAtHl k => [0b11001011, opXYZ 0b10 (fieldOf k) atHlCode]
  | .setR k r => [0b11001011, opXYZ 0b11 (fieldOf k) r.code]
  | .setAtHl k => [0b11001011, opXYZ 0b11 (fieldOf k) atHlCode]
  | .jpNn nn => 0b11000011 :: immBytes nn
  | .jpCcNn cc nn => opCc 0b110 cc.code 0b010 :: immBytes nn
  | .jpHl => [0b11101001]
  | .jrE e => [0b00011000, e]
  | .jrCcE cc e => [opCc 0b001 cc.code 0b000, e]
  | .callNn nn => 0b11001101 :: immBytes nn
  | .callCcNn cc nn => opCc 0b110 cc.code 0b100 :: immBytes nn
  | .ret => [0b11001001]
  | .retCc cc => [opCc 0b110 cc.code 0b000]
  | .reti => [0b11011001]
  | .rst t => [opXYZ 0b11 (fieldOf t) 0b111]
  | .nop => [0b00000000]
  | .halt => [0b01110110]
  | .stop x => [0b00010000, x]
  | .di => [0b11110011]
  | .ei => [0b11111011]

/-- The bytes of an instruction, first byte first. -/
def encode (i : Instr) : List Byte := encodeForm i.form

end Sys2Proof
end

