-- ==== Sys2Proof/Machine/State.lean ====
section
/-! DEFINITION. The state the spec gives the machine (R39), the one fault and the refusals of a step, and the state after construction (R40, R370). -/

namespace Sys2Proof.Machine

/-- The byte arrays that hold the controller's storage (R35). -/
inductive Region where
  | bootimg | cart | vram | eram | wram | oam | io | hram | ie
  deriving DecidableEq, Repr

/-- All storage bytes as (cell number, byte) pairs: cell numbers strictly rising, no byte equal to `emptyByte`. `Region.cell` numbers the cells; `Memory.wf` states the form. -/
abbrev Memory := List Host.Cell

/-- What a cell nothing has written holds: the construction value of every storage byte (R40). -/
def emptyByte : Byte := 0x00

/-- The full state a model must carry between steps (R39). F and the register pairs are views of it (R22, R23). -/
structure State where
  a : Byte
  b : Byte
  c : Byte
  d : Byte
  e : Byte
  h : Byte
  l : Byte
  /-- Zero (R27). -/
  zf : Bool
  /-- Subtract (R27). -/
  nf : Bool
  /-- Half-carry (R27). -/
  hf : Bool
  /-- Carry (R27). -/
  cf : Bool
  pc : Word
  sp : Word
  /-- IME, the interrupt master enable (R30). -/
  ime : Bool
  /-- IME_PENDING, set by EI until the next instruction is done (R31). -/
  imePending : Bool
  /-- HALTED (R32). -/
  halted : Bool
  /-- STOPPED (R33). -/
  stopped : Bool
  /-- BOOT, the boot-overlay flag (R34). -/
  boot : Bool
  /-- The nine arrays of R35, IE and IF among them. -/
  mem : Memory
  deriving DecidableEq, Repr

/-- The reasons a step can stop. -/
inductive Fault where
  /-- Raised by the dispatch of a step on an opcode with no descriptor (R102, R103), carrying the opcode byte, or 0xCB and the byte after it (R341). The state is the one before the step (R104). Safe: the spec names this fault. -/
  | unimplementedOpcode (opcode : Byte) (extended : Option Byte)
  deriving DecidableEq, Repr

/-- The reasons an instruction has no meaning in the model. -/
inductive Refusal where
  /-- An arm of exec whose instruction has no meaning yet; none is left. Safe. -/
  | notModelled (mnemonic : String)
  deriving DecidableEq, Repr

/-- The state right after construction (R40, R370): everything 0 but BOOT, which is 1 (R34). -/
def State.reset : State where
  a := 0
  b := 0
  c := 0
  d := 0
  e := 0
  h := 0
  l := 0
  zf := false
  nf := false
  hf := false
  cf := false
  pc := 0
  sp := 0
  ime := false
  imePending := false
  halted := false
  stopped := false
  boot := true
  mem := []

/-- What a step, and every instruction's meaning, answers. -/
abbrev Result := Host.Outcome State Fault Refusal

end Sys2Proof.Machine
end

