-- ==== Sys2Proof/Machine/Flags.lean ====
section
/-! DEFINITION. The flag byte, the condition codes, and every result-and-flag computation of the spec, each a function of its operands (R190: "pure functions of the pre-operation operand(s)"). -/

namespace Sys2Proof.Machine

/-- A bit as a byte, 0x00 or 0x01. -/
def bitByte (b : Bool) : Byte := if b then 1 else 0

/-- F, the byte view of the flags: Z 7, N 6, H 5, C 4, bits 3..0 read 0 (R22). -/
def State.f (s : State) : Byte :=
  (bitByte s.zf <<< 7) ||| (bitByte s.nf <<< 6) ||| (bitByte s.hf <<< 5) ||| (bitByte s.cf <<< 4)

/-- Writes the four flags. -/
def State.setFlags (z n h c : Bool) (s : State) : State :=
  { s with zf := z, nf := n, hf := h, cf := c }

/-- A write of F: bits 7..4 go to the flags, bits 3..0 are discarded (R22). -/
def State.setF (v : Byte) (s : State) : State :=
  s.setFlags (v.getLsbD 7) (v.getLsbD 6) (v.getLsbD 5) (v.getLsbD 4)

/-- `cond(cc)` (R29). -/
def State.cond (s : State) : Cond → Bool
  | .nz => !s.zf
  | .z => s.zf
  | .nc => !s.cf
  | .c => s.cf

/-- A result byte with the values computed for Z, N, H and C. -/
structure AluResult where
  res : Byte
  z : Bool
  n : Bool
  h : Bool
  c : Bool
  deriving DecidableEq, Repr

/-- `add8` (R190), with N = 0 as every addition writes it (R191). -/
def add8 (a v : Byte) (cin : Bool) : AluResult :=
  let sum := a.toNat + v.toNat + cin.toNat
  let res := BitVec.ofNat 8 sum
  { res := res
    z := res == 0
    n := false
    h := decide ((a &&& 0x0F).toNat + (v &&& 0x0F).toNat + cin.toNat > 0x0F)
    c := decide (sum > 0xFF) }

/-- `sub8` (R190), with N = 1 as every subtraction writes it (R197). -/
def sub8 (a v : Byte) (cin : Bool) : AluResult :=
  let diff : Int := a.toNat - v.toNat - cin.toNat
  let res := BitVec.ofInt 8 diff
  { res := res
    z := res == 0
    n := true
    h := decide ((a &&& 0x0F).toNat < (v &&& 0x0F).toNat + cin.toNat)
    c := decide (a.toNat < v.toNat + cin.toNat) }

/-- The logical operations' flags: Z from the result, N = 0, C = 0, H as given (R203, R206, R209). -/
def logic8 (res : Byte) (h : Bool) : AluResult :=
  { res := res, z := res == 0, n := false, h := h, c := false }

/-- The ALU operation y of R112 on A, the operand and the carry flag. CP computes as SUB does; it writes no result (R212). -/
def aluResult (op : AluOp) (a v : Byte) (cf : Bool) : AluResult :=
  match op with
  | .add => add8 a v false
  | .adc => add8 a v cf
  | .sub => sub8 a v false
  | .sbc => sub8 a v cf
  | .and => logic8 (a &&& v) true
  | .xor => logic8 (a ^^^ v) false
  | .or => logic8 (a ||| v) false
  | .cp => sub8 a v false

/-- The result and the half-carry of an increment (R215). -/
def inc8 (v : Byte) : Byte × Bool := (v + 1, v &&& 0x0F == 0x0F)

/-- The result and the half-carry of a decrement (R217). -/
def dec8 (v : Byte) : Byte × Bool := (v - 1, v &&& 0x0F == 0x00)

/-- The unbounded value that DAA narrows to A, and the carry it writes (R219). -/
def daaValue (a : Byte) (n h c : Bool) : Int × Bool :=
  let a0 : Int := a.toNat
  if n then
    let a1 := if c then a0 - 0x60 else a0
    let a2 := if h then a1 - 0x06 else a1
    (a2, c)
  else
    let high := c || decide (a0 > 0x99)
    let a1 := if high then a0 + 0x60 else a0
    let a2 := if h || decide (a1 % 16 > 0x09) then a1 + 0x06 else a1
    (a2, high)

/-- A result and the carry of a rotate or shift. -/
structure ShiftResult where
  res : Byte
  c : Bool
  deriving DecidableEq, Repr

/-- The rotates and shifts of R255 to R269 on `v`, with the old carry flag. -/
def shiftResult (op : ShiftOp) (v : Byte) (cf : Bool) : ShiftResult :=
  match op with
  | .rlc => { res := (v <<< 1) ||| bitByte (v.getLsbD 7), c := v.getLsbD 7 }
  | .rrc => { res := (v >>> 1) ||| (bitByte (v.getLsbD 0) <<< 7), c := v.getLsbD 0 }
  | .rl => { res := (v <<< 1) ||| bitByte cf, c := v.getLsbD 7 }
  | .rr => { res := (v >>> 1) ||| (bitByte cf <<< 7), c := v.getLsbD 0 }
  | .sla => { res := v <<< 1, c := v.getLsbD 7 }
  | .sra => { res := (v >>> 1) ||| (v &&& 0x80), c := v.getLsbD 0 }
  | .swap => { res := ((v &&& 0x0F) <<< 4) ||| (v >>> 4), c := false }
  | .srl => { res := v >>> 1, c := v.getLsbD 0 }

/-- A 16-bit result with the half-carry and the carry. -/
structure WordResult where
  res : Word
  h : Bool
  c : Bool
  deriving DecidableEq, Repr

/-- The flag function of ADD HL,rr: H from bit 11, C from bit 15 (R230). -/
def add16 (h v : Word) : WordResult :=
  let sum := h.toNat + v.toNat
  { res := BitVec.ofNat 16 sum
    h := decide ((h &&& 0x0FFF).toNat + (v &&& 0x0FFF).toNat > 0x0FFF)
    c := decide (sum > 0xFFFF) }

/-- `e8` as a 16-bit value: the displacement byte sign-extended (R106, R115). -/
def sext (n : Byte) : Word := n.signExtend 16

/-- The flag function of SP + e: the flags of an unsigned low-byte add (R234). -/
def spPlus (sp : Word) (n : Byte) : WordResult :=
  { res := sp + sext n
    h := decide ((sp &&& 0x000F).toNat + (n &&& 0x0F).toNat > 0x0F)
    c := decide ((sp &&& 0x00FF).toNat + n.toNat > 0x00FF) }

end Sys2Proof.Machine
end

