-- ==== Sys2Proof/Machine/Operands.lean ====
section
/-! DEFINITION. The register operands: the fields r8, r16 and r16stk (R108 to R110), the pairs (R23) and the high-page addresses (R151, R153). The memory operands are the addresses below, read and written by the controller (Ops.lean). -/

namespace Sys2Proof.Machine

/-- r8[i] for a register (R108). -/
def State.r8 (s : State) : Reg8 → Byte
  | .b => s.b
  | .c => s.c
  | .d => s.d
  | .e => s.e
  | .h => s.h
  | .l => s.l
  | .a => s.a

/-- r8[i] <- v for a register (R108). -/
def State.setR8 (r : Reg8) (v : Byte) (s : State) : State :=
  match r with
  | .b => { s with b := v }
  | .c => { s with c := v }
  | .d => { s with d := v }
  | .e => { s with e := v }
  | .h => { s with h := v }
  | .l => { s with l := v }
  | .a => { s with a := v }

/-- BC = {B, C} (R23). -/
def State.bc (s : State) : Word := joinBytes s.b s.c

/-- DE = {D, E} (R23). -/
def State.de (s : State) : Word := joinBytes s.d s.e

/-- HL = {H, L} (R23). -/
def State.hl (s : State) : Word := joinBytes s.h s.l

/-- AF = {A, F} (R23). -/
def State.af (s : State) : Word := joinBytes s.a s.f

/-- BC <- v (R23). -/
def State.setBc (v : Word) (s : State) : State := { s with b := hiByte v, c := loByte v }

/-- DE <- v (R23). -/
def State.setDe (v : Word) (s : State) : State := { s with d := hiByte v, e := loByte v }

/-- HL <- v (R23). -/
def State.setHl (v : Word) (s : State) : State := { s with h := hiByte v, l := loByte v }

/-- AF <- v: the low half is written through F (R23, R22). -/
def State.setAf (v : Word) (s : State) : State := { s.setF (loByte v) with a := hiByte v }

/-- r16[p] (R109). -/
def State.r16 (s : State) : Reg16 → Word
  | .bc => s.bc
  | .de => s.de
  | .hl => s.hl
  | .sp => s.sp

/-- r16[p] <- v (R109). -/
def State.setR16 (p : Reg16) (v : Word) (s : State) : State :=
  match p with
  | .bc => s.setBc v
  | .de => s.setDe v
  | .hl => s.setHl v
  | .sp => { s with sp := v }

/-- r16stk[p] (R110). -/
def State.stk (s : State) : RegStk → Word
  | .bc => s.bc
  | .de => s.de
  | .hl => s.hl
  | .af => s.af

/-- r16stk[p] <- v (R110). -/
def State.setStk (q : RegStk) (v : Word) (s : State) : State :=
  match q with
  | .bc => s.setBc v
  | .de => s.setDe v
  | .hl => s.setHl v
  | .af => s.setAf v

/-- 0xFF00 + n, the high page (R115, R151 to R154). -/
def highPage (n : Byte) : Word := 0xFF00 + n.setWidth 16

end Sys2Proof.Machine
end

