-- ==== Sys2Proof/Machine/Ops.lean ====
section
/-! DEFINITION. The named operations over the storage and the engine's latches: the address decoder and the controller's accesses (20_memory.md), the stack (42_load16_stack.md), the movement of PC, interrupt entry and return (60_exceptions.md), and the actions of a step that are not an instruction's own (30_encoding.md R100). -/

namespace Sys2Proof.Machine

/-! ### The storage as canonical data -/

/-- The byte in cell `k`. -/
def Memory.peek : Memory → Nat → Byte
  | [], _ => emptyByte
  | (j, w) :: m, k => if k = j then w else Memory.peek m k

/-- Cell `k` in front of cells with greater numbers, in canonical form. -/
def Memory.place (k : Nat) (v : Byte) (m : Memory) : Memory :=
  if v = emptyByte then m else (k, v) :: m

/-- Stores `v` in cell `k` and keeps the canonical form. -/
def Memory.poke : Memory → Nat → Byte → Memory
  | [], k, v => Memory.place k v []
  | (j, w) :: m, k, v =>
    if k < j then Memory.place k v ((j, w) :: m)
    else if k = j then Memory.place k v m
    else (j, w) :: Memory.poke m k v

/-- The canonical form: cell numbers strictly rising, no entry equal to what an unlisted cell reads as. -/
abbrev Memory.wf (m : Memory) : Prop :=
  m.Pairwise (fun x y => x.1 < y.1) ∧ ∀ x ∈ m, x.2 ≠ emptyByte

/-- The number of a region's first cell: its bus address, and past the bus for the boot image, which shares the cartridge's addresses (R61, R62); log entry 7. -/
def Region.base : Region → Nat
  | .cart => 0x0000
  | .vram => 0x8000
  | .eram => 0xA000
  | .wram => 0xC000
  | .oam => 0xFE00
  | .io => 0xFF00
  | .hram => 0xFF80
  | .ie => 0xFFFF
  | .bootimg => 0x10000

/-- A region's size in bytes (R35). -/
def Region.size : Region → Nat
  | .cart => 32768
  | .vram => 8192
  | .eram => 8192
  | .wram => 8192
  | .oam => 160
  | .io => 128
  | .hram => 127
  | .ie => 1
  | .bootimg => 16384

/-- The number of the cell at index `i` of a region. -/
def Region.cell (r : Region) (i : Nat) : Nat := r.base + i

/-- The nine arrays (R35). -/
def Region.all : List Region := [.cart, .vram, .eram, .wram, .oam, .io, .hram, .ie, .bootimg]

/-- Whether a number is that of a cell of some array: "Nothing else holds a byte" (R35). -/
def isCell (k : Nat) : Bool := Region.all.any fun r => r.base ≤ k && k < r.base + r.size

/-! ### The address decoder and the controller's accesses -/

/-- `resolve(a, BOOT)` (R61): the array and the index an address reaches, or none for the gap. -/
def resolve (a : Word) (boot : Bool) : Option (Region × Nat) :=
  let n := a.toNat
  if n < 0x4000 then if boot then some (.bootimg, n) else some (.cart, n)
  else if n < 0x8000 then some (.cart, n)
  else if n < 0xA000 then some (.vram, n - 0x8000)
  else if n < 0xC000 then some (.eram, n - 0xA000)
  else if n < 0xE000 then some (.wram, n - 0xC000)
  else if n < 0xFE00 then some (.wram, n - 0xE000)
  else if n < 0xFEA0 then some (.oam, n - 0xFE00)
  else if n < 0xFF00 then none
  else if n < 0xFF80 then some (.io, n - 0xFF00)
  else if n < 0xFFFF then some (.hram, n - 0xFF80)
  else some (.ie, 0)

/-- The cell number an address reaches, if it reaches one. -/
def cellOf (a : Word) (boot : Bool) : Option Nat :=
  (resolve a boot).map fun x => x.1.cell x.2

/-- The open-bus value a read of the gap returns (R69). -/
def openBus : Byte := 0xFF

/-- `read(a)` = MemRead(a, 1) (R73, R75). -/
def State.read (s : State) (a : Word) : Byte :=
  match cellOf a s.boot with
  | some k => s.mem.peek k
  | none => openBus

/-- `write(a, v)` = MemWrite(a, 1, v) (R74, R75): a write to the gap is discarded. -/
def State.write (a : Word) (v : Byte) (s : State) : State :=
  match cellOf a s.boot with
  | some k => { s with mem := s.mem.poke k v }
  | none => s

/-- `read_word(a)` = MemRead(a, 2), little-endian, wrapping at 0xFFFF (R76). -/
def State.readWord (s : State) (a : Word) : Word := joinBytes (s.read (a + 1)) (s.read a)

/-- `write_word(a, v)` = MemWrite(a, 2, v): the low byte first (R77). -/
def State.writeWord (a : Word) (v : Word) (s : State) : State :=
  (s.write a (loByte v)).write (a + 1) (hiByte v)

/-! ### PC and the stack -/

/-- PC <- u16(PC + n): a routine that does not branch adds its own length (R105, R25). -/
def State.advance (n : Word) (s : State) : State := { s with pc := s.pc + n }

/-- PC <- target (R9). -/
def State.jump (target : Word) (s : State) : State := { s with pc := target }

/-- One byte of a push: "pre-decrement the stack pointer before each byte store" (R170). -/
def State.pushByte (v : Byte) (s : State) : State :=
  State.write (s.sp - 1) v { s with sp := s.sp - 1 }

/-- `Push16(v)`: the high byte, then the low byte (R170). -/
def State.push16 (v : Word) (s : State) : State := (s.pushByte (hiByte v)).pushByte (loByte v)

/-- `Pop16()`: the low byte from SP, the high byte from SP + 1, SP moved past both (R171). A read changes nothing (R78). -/
def State.pop16 (s : State) : Word × State := (s.readWord s.sp, { s with sp := s.sp + 2 })

/-! ### Interrupts -/

/-- The byte at index `i` of a region, read directly. -/
def State.byteOf (s : State) (r : Region) (i : Nat) : Byte := s.mem.peek (r.cell i)

/-- IE (R36). -/
def State.ieByte (s : State) : Byte := s.byteOf .ie 0

/-- IF, which is IO[0x0F] (R37). -/
def State.ifByte (s : State) : Byte := s.byteOf .io 0x0F

/-- IF <- v. -/
def State.setIf (v : Byte) (s : State) : State :=
  { s with mem := s.mem.poke (Region.io.cell 0x0F) v }

/-- `pending()` = IE & IF & 0x1F, read from the bytes themselves and not through `read` (R347). -/
def State.pending (s : State) : Byte := s.ieByte &&& s.ifByte &&& 0x1F

/-- The lowest-numbered request of a nonzero `pending()`: VBlank first, Joypad last (R348). -/
def lowestRequest (p : Byte) : Fin 5 :=
  if p.getLsbD 0 then 0
  else if p.getLsbD 1 then 1
  else if p.getLsbD 2 then 2
  else if p.getLsbD 3 then 3
  else 4

/-- The vector of request k: 0x0040 + 8 * k (R345, R349). -/
def vector (k : Fin 5) : Word := BitVec.ofNat 16 (0x0040 + 8 * k.val)

/-- A byte with bit k cleared (R273, R349). -/
def clearBit (v : Byte) (k : Nat) : Byte := v &&& ~~~((1 : Byte) <<< k)

/-- A byte with bit k set (R275). -/
def setBit (v : Byte) (k : Nat) : Byte := v ||| ((1 : Byte) <<< k)

/-- Taking an interrupt, the block's one exception entry (R349): IF[k], IME, IME_PENDING and HALTED are cleared, PC is pushed, PC goes to the vector. -/
def State.interruptEntry (s : State) : State :=
  let k := lowestRequest s.pending
  let s1 := s.setIf (clearBit s.ifByte k)
  let s2 := { s1 with ime := false, imePending := false, halted := false }
  (s2.push16 s2.pc).jump (vector k)

/-- A return: PC <- Pop16() (R297). -/
def State.returnFromCall (s : State) : State :=
  let x := s.pop16
  x.2.jump x.1

/-- The return from an interrupt: PC <- Pop16(), IME <- 1 at once (R299, R350). -/
def State.returnFromInterrupt (s : State) : State := { s.returnFromCall with ime := true }

/-- Whether a step enters an interrupt before it would fetch (R100, R349). -/
def State.takesInterrupt (cfg : Config) (s : State) : Bool :=
  decide (cfg.interruptDispatch = .dmg) && s.ime && s.pending != 0

/-! ### The actions of a step around an instruction -/

/-- The halted step: HALTED is cleared once a request is pending, and nothing else changes (R322). -/
def State.haltedStep (s : State) : State :=
  if s.pending != 0 then { s with halted := false } else s

/-- Whether an instruction is DI, the one that does not complete the EI delay (R327). -/
def isDi (i : Instr) : Bool := i.form == .di

/-- The EI delay after a routine, with `p` the value of IME_PENDING before it ran (R327). -/
def State.eiDelay (p : Bool) (i : Instr) (s : State) : State :=
  if p && !isDi i then { s with ime := true, imePending := false } else s

/-- Fetch and decode at PC: the opcode byte and the two bytes after it (R101, R106). Reads change nothing (R78), so reading bytes the instruction does not have is no effect; log entry 8. -/
def State.fetch (cfg : Config) (s : State) : Decoded :=
  decode cfg (s.read s.pc) (s.read (s.pc + 1)) (s.read (s.pc + 2))

/-! ### Placing an instruction where the next step fetches it -/

/-- Three bytes stored at PC, PC + 1 and PC + 2. -/
def State.storeCode (x : Byte × Byte × Byte) (s : State) : State :=
  ((s.write s.pc x.1).write (s.pc + 1) x.2.1).write (s.pc + 2) x.2.2

/-- PC moved to Work RAM if one of the three bytes from PC on would fall in the gap, which holds no byte (R69). -/
def State.leaveGap (s : State) : State :=
  if (cellOf s.pc s.boot).isSome && (cellOf (s.pc + 1) s.boot).isSome
      && (cellOf (s.pc + 2) s.boot).isSome
  then s else { s with pc := 0xC000 }

/-- A state whose next step fetches and runs the instruction in the three bytes: they stand at PC, the engine is neither halted nor stopped, and no interrupt comes first; log entry 6. -/
def State.placeCode (cfg : Config) (x : Byte × Byte × Byte) (s : State) : State :=
  let s1 := { s.leaveGap with halted := false, stopped := false }
  let s2 := s1.storeCode x
  if s2.takesInterrupt cfg then { s2 with ime := false } else s2

end Sys2Proof.Machine
end

