-- ==== Sys2Proof/Machine/Alu16.lean ====
section
/-! DEFINITION. 16-bit arithmetic (44_alu16.md, R230 to R236). First the rule of each form, an operation on states; then the meaning of each row of the opcode table. -/

namespace Sys2Proof.Machine

/-- ADD HL,rr (R231): Zf is kept. -/
def runAddHlRr (p : Reg16) (s : State) : State :=
  let x := add16 s.hl (s.r16 p)
  ((s.setHl x.res).setFlags s.zf false x.h x.c).advance 1

/-- INC rr (R232): no flag is written. -/
def runIncRr (p : Reg16) (s : State) : State := (s.setR16 p (s.r16 p + 1)).advance 1

/-- DEC rr (R233): no flag is written. -/
def runDecRr (p : Reg16) (s : State) : State := (s.setR16 p (s.r16 p - 1)).advance 1

/-- ADD SP,e (R235). -/
def runAddSpE (e : Byte) (s : State) : State :=
  let x := spPlus s.sp e
  ((s.setR16 .sp x.res).setFlags false false x.h x.c).advance 2

/-- LD HL,SP+e (R236): SP is not written. -/
def runLdHlSpE (e : Byte) (s : State) : State :=
  let x := spPlus s.sp e
  ((s.setHl x.res).setFlags false false x.h x.c).advance 2

/-! ### The rows -/

/-- ADD HL,BC (R231). -/
def execAdd_HL_BC (s : State) : Result := .next (runAddHlRr .bc s)

/-- ADD HL,DE (R231). -/
def execAdd_HL_DE (s : State) : Result := .next (runAddHlRr .de s)

/-- ADD HL,HL (R231). -/
def execAdd_HL_HL (s : State) : Result := .next (runAddHlRr .hl s)

/-- ADD HL,SP (R231). -/
def execAdd_HL_SP (s : State) : Result := .next (runAddHlRr .sp s)

/-- INC BC (R232). -/
def execInc_BC (s : State) : Result := .next (runIncRr .bc s)

/-- INC DE (R232). -/
def execInc_DE (s : State) : Result := .next (runIncRr .de s)

/-- INC HL (R232). -/
def execInc_HL (s : State) : Result := .next (runIncRr .hl s)

/-- INC SP (R232). -/
def execInc_SP (s : State) : Result := .next (runIncRr .sp s)

/-- DEC BC (R233). -/
def execDec_BC (s : State) : Result := .next (runDecRr .bc s)

/-- DEC DE (R233). -/
def execDec_DE (s : State) : Result := .next (runDecRr .de s)

/-- DEC HL (R233). -/
def execDec_HL (s : State) : Result := .next (runDecRr .hl s)

/-- DEC SP (R233). -/
def execDec_SP (s : State) : Result := .next (runDecRr .sp s)

/-- ADD SP,e (R235). -/
def execAdd_SP_e (e : Byte) (s : State) : Result := .next (runAddSpE e s)

/-- LD HL,SP+e (R236). -/
def execLd_HL_SPe (e : Byte) (s : State) : Result := .next (runLdHlSpE e s)

end Sys2Proof.Machine
end

