-- ==== Sys2Proof/Machine/Alu8.lean ====
section
/-! DEFINITION. 8-bit arithmetic and logic (43_alu8.md, R189 to R222). First the rule of each form, an operation on states; then the meaning of each row of the opcode table. -/

namespace Sys2Proof.Machine

/-- An ALU operation on A and an operand already read (R189): all four flags are written, and A unless the operation is CP (R212). -/
def applyAlu (op : AluOp) (v : Byte) (s : State) : State :=
  let x := aluResult op s.a v s.cf
  let s1 := s.setFlags x.z x.n x.h x.c
  match op with
  | .cp => s1
  | _ => s1.setR8 .a x.res

/-- ADD, ADC, SUB, SBC, AND, XOR, OR, CP on a register (R191, R194, R197, R200, R203, R206, R209, R212). -/
def runAluR (op : AluOp) (r : Reg8) (s : State) : State := (applyAlu op (s.r8 r) s).advance 1

/-- The same on the byte at HL (R192, R195, R198, R201, R204, R207, R210, R213). -/
def runAluAtHl (op : AluOp) (s : State) : State := (applyAlu op (s.read s.hl) s).advance 1

/-- The same on an immediate (R193, R196, R199, R202, R205, R208, R211, R214). -/
def runAluN (op : AluOp) (n : Byte) (s : State) : State := (applyAlu op n s).advance 2

/-- INC r (R215): Cf is kept. -/
def runIncR (r : Reg8) (s : State) : State :=
  let x := inc8 (s.r8 r)
  ((s.setR8 r x.1).setFlags (x.1 == 0) false x.2 s.cf).advance 1

/-- INC (HL) (R216). -/
def runIncAtHl (s : State) : State :=
  let x := inc8 (s.read s.hl)
  ((s.write s.hl x.1).setFlags (x.1 == 0) false x.2 s.cf).advance 1

/-- DEC r (R217): Cf is kept. -/
def runDecR (r : Reg8) (s : State) : State :=
  let x := dec8 (s.r8 r)
  ((s.setR8 r x.1).setFlags (x.1 == 0) true x.2 s.cf).advance 1

/-- DEC (HL) (R218). -/
def runDecAtHl (s : State) : State :=
  let x := dec8 (s.read s.hl)
  ((s.write s.hl x.1).setFlags (x.1 == 0) true x.2 s.cf).advance 1

/-- DAA (R219), on every input (D38). -/
def runDaa (s : State) : State :=
  let x := daaValue s.a s.nf s.hf s.cf
  let res := BitVec.ofInt 8 x.1
  ((s.setR8 .a res).setFlags (res == 0) s.nf false x.2).advance 1

/-- CPL (R220). -/
def runCpl (s : State) : State :=
  ((s.setR8 .a (s.a ^^^ 0xFF)).setFlags s.zf true true s.cf).advance 1

/-- SCF (R221). -/
def runScf (s : State) : State := (s.setFlags s.zf false false true).advance 1

/-- CCF (R222). -/
def runCcf (s : State) : State := (s.setFlags s.zf false false (!s.cf)).advance 1

/-! ### The rows -/

/-- ADD A,B (R191). -/
def execAdd_A_B (s : State) : Result := .next (runAluR .add .b s)

/-- ADD A,C (R191). -/
def execAdd_A_C (s : State) : Result := .next (runAluR .add .c s)

/-- ADD A,D (R191). -/
def execAdd_A_D (s : State) : Result := .next (runAluR .add .d s)

/-- ADD A,E (R191). -/
def execAdd_A_E (s : State) : Result := .next (runAluR .add .e s)

/-- ADD A,H (R191). -/
def execAdd_A_H (s : State) : Result := .next (runAluR .add .h s)

/-- ADD A,L (R191). -/
def execAdd_A_L (s : State) : Result := .next (runAluR .add .l s)

/-- ADD A,A (R191). -/
def execAdd_A_A (s : State) : Result := .next (runAluR .add .a s)

/-- ADD A,(HL) (R192). -/
def execAdd_A_atHL (s : State) : Result := .next (runAluAtHl .add s)

/-- ADD A,n (R193). -/
def execAdd_A_n (n : Byte) (s : State) : Result := .next (runAluN .add n s)

/-- ADC A,B (R194). -/
def execAdc_A_B (s : State) : Result := .next (runAluR .adc .b s)

/-- ADC A,C (R194). -/
def execAdc_A_C (s : State) : Result := .next (runAluR .adc .c s)

/-- ADC A,D (R194). -/
def execAdc_A_D (s : State) : Result := .next (runAluR .adc .d s)

/-- ADC A,E (R194). -/
def execAdc_A_E (s : State) : Result := .next (runAluR .adc .e s)

/-- ADC A,H (R194). -/
def execAdc_A_H (s : State) : Result := .next (runAluR .adc .h s)

/-- ADC A,L (R194). -/
def execAdc_A_L (s : State) : Result := .next (runAluR .adc .l s)

/-- ADC A,A (R194). -/
def execAdc_A_A (s : State) : Result := .next (runAluR .adc .a s)

/-- ADC A,(HL) (R195). -/
def execAdc_A_atHL (s : State) : Result := .next (runAluAtHl .adc s)

/-- ADC A,n (R196). -/
def execAdc_A_n (n : Byte) (s : State) : Result := .next (runAluN .adc n s)

/-- SUB B (R197). -/
def execSub_B (s : State) : Result := .next (runAluR .sub .b s)

/-- SUB C (R197). -/
def execSub_C (s : State) : Result := .next (runAluR .sub .c s)

/-- SUB D (R197). -/
def execSub_D (s : State) : Result := .next (runAluR .sub .d s)

/-- SUB E (R197). -/
def execSub_E (s : State) : Result := .next (runAluR .sub .e s)

/-- SUB H (R197). -/
def execSub_H (s : State) : Result := .next (runAluR .sub .h s)

/-- SUB L (R197). -/
def execSub_L (s : State) : Result := .next (runAluR .sub .l s)

/-- SUB A (R197). -/
def execSub_A (s : State) : Result := .next (runAluR .sub .a s)

/-- SUB (HL) (R198). -/
def execSub_atHL (s : State) : Result := .next (runAluAtHl .sub s)

/-- SUB n (R199). -/
def execSub_n (n : Byte) (s : State) : Result := .next (runAluN .sub n s)

/-- SBC A,B (R200). -/
def execSbc_A_B (s : State) : Result := .next (runAluR .sbc .b s)

/-- SBC A,C (R200). -/
def execSbc_A_C (s : State) : Result := .next (runAluR .sbc .c s)

/-- SBC A,D (R200). -/
def execSbc_A_D (s : State) : Result := .next (runAluR .sbc .d s)

/-- SBC A,E (R200). -/
def execSbc_A_E (s : State) : Result := .next (runAluR .sbc .e s)

/-- SBC A,H (R200). -/
def execSbc_A_H (s : State) : Result := .next (runAluR .sbc .h s)

/-- SBC A,L (R200). -/
def execSbc_A_L (s : State) : Result := .next (runAluR .sbc .l s)

/-- SBC A,A (R200). -/
def execSbc_A_A (s : State) : Result := .next (runAluR .sbc .a s)

/-- SBC A,(HL) (R201). -/
def execSbc_A_atHL (s : State) : Result := .next (runAluAtHl .sbc s)

/-- SBC A,n (R202). -/
def execSbc_A_n (n : Byte) (s : State) : Result := .next (runAluN .sbc n s)

/-- AND B (R203). -/
def execAnd_B (s : State) : Result := .next (runAluR .and .b s)

/-- AND C (R203). -/
def execAnd_C (s : State) : Result := .next (runAluR .and .c s)

/-- AND D (R203). -/
def execAnd_D (s : State) : Result := .next (runAluR .and .d s)

/-- AND E (R203). -/
def execAnd_E (s : State) : Result := .next (runAluR .and .e s)

/-- AND H (R203). -/
def execAnd_H (s : State) : Result := .next (runAluR .and .h s)

/-- AND L (R203). -/
def execAnd_L (s : State) : Result := .next (runAluR .and .l s)

/-- AND A (R203). -/
def execAnd_A (s : State) : Result := .next (runAluR .and .a s)

/-- AND (HL) (R204). -/
def execAnd_atHL (s : State) : Result := .next (runAluAtHl .and s)

/-- AND n (R205). -/
def execAnd_n (n : Byte) (s : State) : Result := .next (runAluN .and n s)

/-- XOR B (R206). -/
def execXor_B (s : State) : Result := .next (runAluR .xor .b s)

/-- XOR C (R206). -/
def execXor_C (s : State) : Result := .next (runAluR .xor .c s)

/-- XOR D (R206). -/
def execXor_D (s : State) : Result := .next (runAluR .xor .d s)

/-- XOR E (R206). -/
def execXor_E (s : State) : Result := .next (runAluR .xor .e s)

/-- XOR H (R206). -/
def execXor_H (s : State) : Result := .next (runAluR .xor .h s)

/-- XOR L (R206). -/
def execXor_L (s : State) : Result := .next (runAluR .xor .l s)

/-- XOR A (R206). -/
def execXor_A (s : State) : Result := .next (runAluR .xor .a s)

/-- XOR (HL) (R207). -/
def execXor_atHL (s : State) : Result := .next (runAluAtHl .xor s)

/-- XOR n (R208). -/
def execXor_n (n : Byte) (s : State) : Result := .next (runAluN .xor n s)

/-- OR B (R209). -/
def execOr_B (s : State) : Result := .next (runAluR .or .b s)

/-- OR C (R209). -/
def execOr_C (s : State) : Result := .next (runAluR .or .c s)

/-- OR D (R209). -/
def execOr_D (s : State) : Result := .next (runAluR .or .d s)

/-- OR E (R209). -/
def execOr_E (s : State) : Result := .next (runAluR .or .e s)

/-- OR H (R209). -/
def execOr_H (s : State) : Result := .next (runAluR .or .h s)

/-- OR L (R209). -/
def execOr_L (s : State) : Result := .next (runAluR .or .l s)

/-- OR A (R209). -/
def execOr_A (s : State) : Result := .next (runAluR .or .a s)

/-- OR (HL) (R210). -/
def execOr_atHL (s : State) : Result := .next (runAluAtHl .or s)

/-- OR n (R211). -/
def execOr_n (n : Byte) (s : State) : Result := .next (runAluN .or n s)

/-- CP B (R212). -/
def execCp_B (s : State) : Result := .next (runAluR .cp .b s)

/-- CP C (R212). -/
def execCp_C (s : State) : Result := .next (runAluR .cp .c s)

/-- CP D (R212). -/
def execCp_D (s : State) : Result := .next (runAluR .cp .d s)

/-- CP E (R212). -/
def execCp_E (s : State) : Result := .next (runAluR .cp .e s)

/-- CP H (R212). -/
def execCp_H (s : State) : Result := .next (runAluR .cp .h s)

/-- CP L (R212). -/
def execCp_L (s : State) : Result := .next (runAluR .cp .l s)

/-- CP A (R212). -/
def execCp_A (s : State) : Result := .next (runAluR .cp .a s)

/-- CP (HL) (R213). -/
def execCp_atHL (s : State) : Result := .next (runAluAtHl .cp s)

/-- CP n (R214). -/
def execCp_n (n : Byte) (s : State) : Result := .next (runAluN .cp n s)

/-- INC B (R215). -/
def execInc_B (s : State) : Result := .next (runIncR .b s)

/-- INC C (R215). -/
def execInc_C (s : State) : Result := .next (runIncR .c s)

/-- INC D (R215). -/
def execInc_D (s : State) : Result := .next (runIncR .d s)

/-- INC E (R215). -/
def execInc_E (s : State) : Result := .next (runIncR .e s)

/-- INC H (R215). -/
def execInc_H (s : State) : Result := .next (runIncR .h s)

/-- INC L (R215). -/
def execInc_L (s : State) : Result := .next (runIncR .l s)

/-- INC A (R215). -/
def execInc_A (s : State) : Result := .next (runIncR .a s)

/-- INC (HL) (R216). -/
def execInc_atHL (s : State) : Result := .next (runIncAtHl s)

/-- DEC B (R217). -/
def execDec_B (s : State) : Result := .next (runDecR .b s)

/-- DEC C (R217). -/
def execDec_C (s : State) : Result := .next (runDecR .c s)

/-- DEC D (R217). -/
def execDec_D (s : State) : Result := .next (runDecR .d s)

/-- DEC E (R217). -/
def execDec_E (s : State) : Result := .next (runDecR .e s)

/-- DEC H (R217). -/
def execDec_H (s : State) : Result := .next (runDecR .h s)

/-- DEC L (R217). -/
def execDec_L (s : State) : Result := .next (runDecR .l s)

/-- DEC A (R217). -/
def execDec_A (s : State) : Result := .next (runDecR .a s)

/-- DEC (HL) (R218). -/
def execDec_atHL (s : State) : Result := .next (runDecAtHl s)

/-- DAA (R219). -/
def execDaa (s : State) : Result := .next (runDaa s)

/-- CPL (R220). -/
def execCpl (s : State) : Result := .next (runCpl s)

/-- SCF (R221). -/
def execScf (s : State) : Result := .next (runScf s)

/-- CCF (R222). -/
def execCcf (s : State) : Result := .next (runCcf s)

end Sys2Proof.Machine
end

