-- ==== Sys2Proof/Machine/Bits.lean ====
section
/-! DEFINITION. Bit test, reset and set (45_rotate_shift_bit.md, R271 to R276). First the rule of each form, an operation on states; then the meaning of each row of the opcode table. -/

namespace Sys2Proof.Machine

/-- Zf is the complement of the tested bit, Cf is kept (R271). -/
def testBit (v : Byte) (k : Fin 8) (s : State) : State :=
  (s.setFlags (!v.getLsbD k) false true s.cf).advance 2

/-- BIT b,r (R271). -/
def runBitR (k : Fin 8) (r : Reg8) (s : State) : State := testBit (s.r8 r) k s

/-- BIT b,(HL) (R272): memory is not written. -/
def runBitAtHl (k : Fin 8) (s : State) : State := testBit (s.read s.hl) k s

/-- RES b,r (R273). -/
def runResR (k : Fin 8) (r : Reg8) (s : State) : State :=
  (s.setR8 r (clearBit (s.r8 r) k)).advance 2

/-- RES b,(HL) (R274). -/
def runResAtHl (k : Fin 8) (s : State) : State :=
  (s.write s.hl (clearBit (s.read s.hl) k)).advance 2

/-- SET b,r (R275). -/
def runSetR (k : Fin 8) (r : Reg8) (s : State) : State :=
  (s.setR8 r (setBit (s.r8 r) k)).advance 2

/-- SET b,(HL) (R276). -/
def runSetAtHl (k : Fin 8) (s : State) : State :=
  (s.write s.hl (setBit (s.read s.hl) k)).advance 2

/-! ### The rows -/

/-- BIT 0,B (R271). -/
def execBit_0_B (s : State) : Result := .next (runBitR 0 .b s)

/-- BIT 0,C (R271). -/
def execBit_0_C (s : State) : Result := .next (runBitR 0 .c s)

/-- BIT 0,D (R271). -/
def execBit_0_D (s : State) : Result := .next (runBitR 0 .d s)

/-- BIT 0,E (R271). -/
def execBit_0_E (s : State) : Result := .next (runBitR 0 .e s)

/-- BIT 0,H (R271). -/
def execBit_0_H (s : State) : Result := .next (runBitR 0 .h s)

/-- BIT 0,L (R271). -/
def execBit_0_L (s : State) : Result := .next (runBitR 0 .l s)

/-- BIT 0,A (R271). -/
def execBit_0_A (s : State) : Result := .next (runBitR 0 .a s)

/-- BIT 1,B (R271). -/
def execBit_1_B (s : State) : Result := .next (runBitR 1 .b s)

/-- BIT 1,C (R271). -/
def execBit_1_C (s : State) : Result := .next (runBitR 1 .c s)

/-- BIT 1,D (R271). -/
def execBit_1_D (s : State) : Result := .next (runBitR 1 .d s)

/-- BIT 1,E (R271). -/
def execBit_1_E (s : State) : Result := .next (runBitR 1 .e s)

/-- BIT 1,H (R271). -/
def execBit_1_H (s : State) : Result := .next (runBitR 1 .h s)

/-- BIT 1,L (R271). -/
def execBit_1_L (s : State) : Result := .next (runBitR 1 .l s)

/-- BIT 1,A (R271). -/
def execBit_1_A (s : State) : Result := .next (runBitR 1 .a s)

/-- BIT 2,B (R271). -/
def execBit_2_B (s : State) : Result := .next (runBitR 2 .b s)

/-- BIT 2,C (R271). -/
def execBit_2_C (s : State) : Result := .next (runBitR 2 .c s)

/-- BIT 2,D (R271). -/
def execBit_2_D (s : State) : Result := .next (runBitR 2 .d s)

/-- BIT 2,E (R271). -/
def execBit_2_E (s : State) : Result := .next (runBitR 2 .e s)

/-- BIT 2,H (R271). -/
def execBit_2_H (s : State) : Result := .next (runBitR 2 .h s)

/-- BIT 2,L (R271). -/
def execBit_2_L (s : State) : Result := .next (runBitR 2 .l s)

/-- BIT 2,A (R271). -/
def execBit_2_A (s : State) : Result := .next (runBitR 2 .a s)

/-- BIT 3,B (R271). -/
def execBit_3_B (s : State) : Result := .next (runBitR 3 .b s)

/-- BIT 3,C (R271). -/
def execBit_3_C (s : State) : Result := .next (runBitR 3 .c s)

/-- BIT 3,D (R271). -/
def execBit_3_D (s : State) : Result := .next (runBitR 3 .d s)

/-- BIT 3,E (R271). -/
def execBit_3_E (s : State) : Result := .next (runBitR 3 .e s)

/-- BIT 3,H (R271). -/
def execBit_3_H (s : State) : Result := .next (runBitR 3 .h s)

/-- BIT 3,L (R271). -/
def execBit_3_L (s : State) : Result := .next (runBitR 3 .l s)

/-- BIT 3,A (R271). -/
def execBit_3_A (s : State) : Result := .next (runBitR 3 .a s)

/-- BIT 4,B (R271). -/
def execBit_4_B (s : State) : Result := .next (runBitR 4 .b s)

/-- BIT 4,C (R271). -/
def execBit_4_C (s : State) : Result := .next (runBitR 4 .c s)

/-- BIT 4,D (R271). -/
def execBit_4_D (s : State) : Result := .next (runBitR 4 .d s)

/-- BIT 4,E (R271). -/
def execBit_4_E (s : State) : Result := .next (runBitR 4 .e s)

/-- BIT 4,H (R271). -/
def execBit_4_H (s : State) : Result := .next (runBitR 4 .h s)

/-- BIT 4,L (R271). -/
def execBit_4_L (s : State) : Result := .next (runBitR 4 .l s)

/-- BIT 4,A (R271). -/
def execBit_4_A (s : State) : Result := .next (runBitR 4 .a s)

/-- BIT 5,B (R271). -/
def execBit_5_B (s : State) : Result := .next (runBitR 5 .b s)

/-- BIT 5,C (R271). -/
def execBit_5_C (s : State) : Result := .next (runBitR 5 .c s)

/-- BIT 5,D (R271). -/
def execBit_5_D (s : State) : Result := .next (runBitR 5 .d s)

/-- BIT 5,E (R271). -/
def execBit_5_E (s : State) : Result := .next (runBitR 5 .e s)

/-- BIT 5,H (R271). -/
def execBit_5_H (s : State) : Result := .next (runBitR 5 .h s)

/-- BIT 5,L (R271). -/
def execBit_5_L (s : State) : Result := .next (runBitR 5 .l s)

/-- BIT 5,A (R271). -/
def execBit_5_A (s : State) : Result := .next (runBitR 5 .a s)

/-- BIT 6,B (R271). -/
def execBit_6_B (s : State) : Result := .next (runBitR 6 .b s)

/-- BIT 6,C (R271). -/
def execBit_6_C (s : State) : Result := .next (runBitR 6 .c s)

/-- BIT 6,D (R271). -/
def execBit_6_D (s : State) : Result := .next (runBitR 6 .d s)

/-- BIT 6,E (R271). -/
def execBit_6_E (s : State) : Result := .next (runBitR 6 .e s)

/-- BIT 6,H (R271). -/
def execBit_6_H (s : State) : Result := .next (runBitR 6 .h s)

/-- BIT 6,L (R271). -/
def execBit_6_L (s : State) : Result := .next (runBitR 6 .l s)

/-- BIT 6,A (R271). -/
def execBit_6_A (s : State) : Result := .next (runBitR 6 .a s)

/-- BIT 7,B (R271). -/
def execBit_7_B (s : State) : Result := .next (runBitR 7 .b s)

/-- BIT 7,C (R271). -/
def execBit_7_C (s : State) : Result := .next (runBitR 7 .c s)

/-- BIT 7,D (R271). -/
def execBit_7_D (s : State) : Result := .next (runBitR 7 .d s)

/-- BIT 7,E (R271). -/
def execBit_7_E (s : State) : Result := .next (runBitR 7 .e s)

/-- BIT 7,H (R271). -/
def execBit_7_H (s : State) : Result := .next (runBitR 7 .h s)

/-- BIT 7,L (R271). -/
def execBit_7_L (s : State) : Result := .next (runBitR 7 .l s)

/-- BIT 7,A (R271). -/
def execBit_7_A (s : State) : Result := .next (runBitR 7 .a s)

/-- BIT 0,(HL) (R272). -/
def execBit_0_atHL (s : State) : Result := .next (runBitAtHl 0 s)

/-- BIT 1,(HL) (R272). -/
def execBit_1_atHL (s : State) : Result := .next (runBitAtHl 1 s)

/-- BIT 2,(HL) (R272). -/
def execBit_2_atHL (s : State) : Result := .next (runBitAtHl 2 s)

/-- BIT 3,(HL) (R272). -/
def execBit_3_atHL (s : State) : Result := .next (runBitAtHl 3 s)

/-- BIT 4,(HL) (R272). -/
def execBit_4_atHL (s : State) : Result := .next (runBitAtHl 4 s)

/-- BIT 5,(HL) (R272). -/
def execBit_5_atHL (s : State) : Result := .next (runBitAtHl 5 s)

/-- BIT 6,(HL) (R272). -/
def execBit_6_atHL (s : State) : Result := .next (runBitAtHl 6 s)

/-- BIT 7,(HL) (R272). -/
def execBit_7_atHL (s : State) : Result := .next (runBitAtHl 7 s)

/-- RES 0,B (R273). -/
def execRes_0_B (s : State) : Result := .next (runResR 0 .b s)

/-- RES 0,C (R273). -/
def execRes_0_C (s : State) : Result := .next (runResR 0 .c s)

/-- RES 0,D (R273). -/
def execRes_0_D (s : State) : Result := .next (runResR 0 .d s)

/-- RES 0,E (R273). -/
def execRes_0_E (s : State) : Result := .next (runResR 0 .e s)

/-- RES 0,H (R273). -/
def execRes_0_H (s : State) : Result := .next (runResR 0 .h s)

/-- RES 0,L (R273). -/
def execRes_0_L (s : State) : Result := .next (runResR 0 .l s)

/-- RES 0,A (R273). -/
def execRes_0_A (s : State) : Result := .next (runResR 0 .a s)

/-- RES 1,B (R273). -/
def execRes_1_B (s : State) : Result := .next (runResR 1 .b s)

/-- RES 1,C (R273). -/
def execRes_1_C (s : State) : Result := .next (runResR 1 .c s)

/-- RES 1,D (R273). -/
def execRes_1_D (s : State) : Result := .next (runResR 1 .d s)

/-- RES 1,E (R273). -/
def execRes_1_E (s : State) : Result := .next (runResR 1 .e s)

/-- RES 1,H (R273). -/
def execRes_1_H (s : State) : Result := .next (runResR 1 .h s)

/-- RES 1,L (R273). -/
def execRes_1_L (s : State) : Result := .next (runResR 1 .l s)

/-- RES 1,A (R273). -/
def execRes_1_A (s : State) : Result := .next (runResR 1 .a s)

/-- RES 2,B (R273). -/
def execRes_2_B (s : State) : Result := .next (runResR 2 .b s)

/-- RES 2,C (R273). -/
def execRes_2_C (s : State) : Result := .next (runResR 2 .c s)

/-- RES 2,D (R273). -/
def execRes_2_D (s : State) : Result := .next (runResR 2 .d s)

/-- RES 2,E (R273). -/
def execRes_2_E (s : State) : Result := .next (runResR 2 .e s)

/-- RES 2,H (R273). -/
def execRes_2_H (s : State) : Result := .next (runResR 2 .h s)

/-- RES 2,L (R273). -/
def execRes_2_L (s : State) : Result := .next (runResR 2 .l s)

/-- RES 2,A (R273). -/
def execRes_2_A (s : State) : Result := .next (runResR 2 .a s)

/-- RES 3,B (R273). -/
def execRes_3_B (s : State) : Result := .next (runResR 3 .b s)

/-- RES 3,C (R273). -/
def execRes_3_C (s : State) : Result := .next (runResR 3 .c s)

/-- RES 3,D (R273). -/
def execRes_3_D (s : State) : Result := .next (runResR 3 .d s)

/-- RES 3,E (R273). -/
def execRes_3_E (s : State) : Result := .next (runResR 3 .e s)

/-- RES 3,H (R273). -/
def execRes_3_H (s : State) : Result := .next (runResR 3 .h s)

/-- RES 3,L (R273). -/
def execRes_3_L (s : State) : Result := .next (runResR 3 .l s)

/-- RES 3,A (R273). -/
def execRes_3_A (s : State) : Result := .next (runResR 3 .a s)

/-- RES 4,B (R273). -/
def execRes_4_B (s : State) : Result := .next (runResR 4 .b s)

/-- RES 4,C (R273). -/
def execRes_4_C (s : State) : Result := .next (runResR 4 .c s)

/-- RES 4,D (R273). -/
def execRes_4_D (s : State) : Result := .next (runResR 4 .d s)

/-- RES 4,E (R273). -/
def execRes_4_E (s : State) : Result := .next (runResR 4 .e s)

/-- RES 4,H (R273). -/
def execRes_4_H (s : State) : Result := .next (runResR 4 .h s)

/-- RES 4,L (R273). -/
def execRes_4_L (s : State) : Result := .next (runResR 4 .l s)

/-- RES 4,A (R273). -/
def execRes_4_A (s : State) : Result := .next (runResR 4 .a s)

/-- RES 5,B (R273). -/
def execRes_5_B (s : State) : Result := .next (runResR 5 .b s)

/-- RES 5,C (R273). -/
def execRes_5_C (s : State) : Result := .next (runResR 5 .c s)

/-- RES 5,D (R273). -/
def execRes_5_D (s : State) : Result := .next (runResR 5 .d s)

/-- RES 5,E (R273). -/
def execRes_5_E (s : State) : Result := .next (runResR 5 .e s)

/-- RES 5,H (R273). -/
def execRes_5_H (s : State) : Result := .next (runResR 5 .h s)

/-- RES 5,L (R273). -/
def execRes_5_L (s : State) : Result := .next (runResR 5 .l s)

/-- RES 5,A (R273). -/
def execRes_5_A (s : State) : Result := .next (runResR 5 .a s)

/-- RES 6,B (R273). -/
def execRes_6_B (s : State) : Result := .next (runResR 6 .b s)

/-- RES 6,C (R273). -/
def execRes_6_C (s : State) : Result := .next (runResR 6 .c s)

/-- RES 6,D (R273). -/
def execRes_6_D (s : State) : Result := .next (runResR 6 .d s)

/-- RES 6,E (R273). -/
def execRes_6_E (s : State) : Result := .next (runResR 6 .e s)

/-- RES 6,H (R273). -/
def execRes_6_H (s : State) : Result := .next (runResR 6 .h s)

/-- RES 6,L (R273). -/
def execRes_6_L (s : State) : Result := .next (runResR 6 .l s)

/-- RES 6,A (R273). -/
def execRes_6_A (s : State) : Result := .next (runResR 6 .a s)

/-- RES 7,B (R273). -/
def execRes_7_B (s : State) : Result := .next (runResR 7 .b s)

/-- RES 7,C (R273). -/
def execRes_7_C (s : State) : Result := .next (runResR 7 .c s)

/-- RES 7,D (R273). -/
def execRes_7_D (s : State) : Result := .next (runResR 7 .d s)

/-- RES 7,E (R273). -/
def execRes_7_E (s : State) : Result := .next (runResR 7 .e s)

/-- RES 7,H (R273). -/
def execRes_7_H (s : State) : Result := .next (runResR 7 .h s)

/-- RES 7,L (R273). -/
def execRes_7_L (s : State) : Result := .next (runResR 7 .l s)

/-- RES 7,A (R273). -/
def execRes_7_A (s : State) : Result := .next (runResR 7 .a s)

/-- RES 0,(HL) (R274). -/
def execRes_0_atHL (s : State) : Result := .next (runResAtHl 0 s)

/-- RES 1,(HL) (R274). -/
def execRes_1_atHL (s : State) : Result := .next (runResAtHl 1 s)

/-- RES 2,(HL) (R274). -/
def execRes_2_atHL (s : State) : Result := .next (runResAtHl 2 s)

/-- RES 3,(HL) (R274). -/
def execRes_3_atHL (s : State) : Result := .next (runResAtHl 3 s)

/-- RES 4,(HL) (R274). -/
def execRes_4_atHL (s : State) : Result := .next (runResAtHl 4 s)

/-- RES 5,(HL) (R274). -/
def execRes_5_atHL (s : State) : Result := .next (runResAtHl 5 s)

/-- RES 6,(HL) (R274). -/
def execRes_6_atHL (s : State) : Result := .next (runResAtHl 6 s)

/-- RES 7,(HL) (R274). -/
def execRes_7_atHL (s : State) : Result := .next (runResAtHl 7 s)

/-- SET 0,B (R275). -/
def execSet_0_B (s : State) : Result := .next (runSetR 0 .b s)

/-- SET 0,C (R275). -/
def execSet_0_C (s : State) : Result := .next (runSetR 0 .c s)

/-- SET 0,D (R275). -/
def execSet_0_D (s : State) : Result := .next (runSetR 0 .d s)

/-- SET 0,E (R275). -/
def execSet_0_E (s : State) : Result := .next (runSetR 0 .e s)

/-- SET 0,H (R275). -/
def execSet_0_H (s : State) : Result := .next (runSetR 0 .h s)

/-- SET 0,L (R275). -/
def execSet_0_L (s : State) : Result := .next (runSetR 0 .l s)

/-- SET 0,A (R275). -/
def execSet_0_A (s : State) : Result := .next (runSetR 0 .a s)

/-- SET 1,B (R275). -/
def execSet_1_B (s : State) : Result := .next (runSetR 1 .b s)

/-- SET 1,C (R275). -/
def execSet_1_C (s : State) : Result := .next (runSetR 1 .c s)

/-- SET 1,D (R275). -/
def execSet_1_D (s : State) : Result := .next (runSetR 1 .d s)

/-- SET 1,E (R275). -/
def execSet_1_E (s : State) : Result := .next (runSetR 1 .e s)

/-- SET 1,H (R275). -/
def execSet_1_H (s : State) : Result := .next (runSetR 1 .h s)

/-- SET 1,L (R275). -/
def execSet_1_L (s : State) : Result := .next (runSetR 1 .l s)

/-- SET 1,A (R275). -/
def execSet_1_A (s : State) : Result := .next (runSetR 1 .a s)

/-- SET 2,B (R275). -/
def execSet_2_B (s : State) : Result := .next (runSetR 2 .b s)

/-- SET 2,C (R275). -/
def execSet_2_C (s : State) : Result := .next (runSetR 2 .c s)

/-- SET 2,D (R275). -/
def execSet_2_D (s : State) : Result := .next (runSetR 2 .d s)

/-- SET 2,E (R275). -/
def execSet_2_E (s : State) : Result := .next (runSetR 2 .e s)

/-- SET 2,H (R275). -/
def execSet_2_H (s : State) : Result := .next (runSetR 2 .h s)

/-- SET 2,L (R275). -/
def execSet_2_L (s : State) : Result := .next (runSetR 2 .l s)

/-- SET 2,A (R275). -/
def execSet_2_A (s : State) : Result := .next (runSetR 2 .a s)

/-- SET 3,B (R275). -/
def execSet_3_B (s : State) : Result := .next (runSetR 3 .b s)

/-- SET 3,C (R275). -/
def execSet_3_C (s : State) : Result := .next (runSetR 3 .c s)

/-- SET 3,D (R275). -/
def execSet_3_D (s : State) : Result := .next (runSetR 3 .d s)

/-- SET 3,E (R275). -/
def execSet_3_E (s : State) : Result := .next (runSetR 3 .e s)

/-- SET 3,H (R275). -/
def execSet_3_H (s : State) : Result := .next (runSetR 3 .h s)

/-- SET 3,L (R275). -/
def execSet_3_L (s : State) : Result := .next (runSetR 3 .l s)

/-- SET 3,A (R275). -/
def execSet_3_A (s : State) : Result := .next (runSetR 3 .a s)

/-- SET 4,B (R275). -/
def execSet_4_B (s : State) : Result := .next (runSetR 4 .b s)

/-- SET 4,C (R275). -/
def execSet_4_C (s : State) : Result := .next (runSetR 4 .c s)

/-- SET 4,D (R275). -/
def execSet_4_D (s : State) : Result := .next (runSetR 4 .d s)

/-- SET 4,E (R275). -/
def execSet_4_E (s : State) : Result := .next (runSetR 4 .e s)

/-- SET 4,H (R275). -/
def execSet_4_H (s : State) : Result := .next (runSetR 4 .h s)

/-- SET 4,L (R275). -/
def execSet_4_L (s : State) : Result := .next (runSetR 4 .l s)

/-- SET 4,A (R275). -/
def execSet_4_A (s : State) : Result := .next (runSetR 4 .a s)

/-- SET 5,B (R275). -/
def execSet_5_B (s : State) : Result := .next (runSetR 5 .b s)

/-- SET 5,C (R275). -/
def execSet_5_C (s : State) : Result := .next (runSetR 5 .c s)

/-- SET 5,D (R275). -/
def execSet_5_D (s : State) : Result := .next (runSetR 5 .d s)

/-- SET 5,E (R275). -/
def execSet_5_E (s : State) : Result := .next (runSetR 5 .e s)

/-- SET 5,H (R275). -/
def execSet_5_H (s : State) : Result := .next (runSetR 5 .h s)

/-- SET 5,L (R275). -/
def execSet_5_L (s : State) : Result := .next (runSetR 5 .l s)

/-- SET 5,A (R275). -/
def execSet_5_A (s : State) : Result := .next (runSetR 5 .a s)

/-- SET 6,B (R275). -/
def execSet_6_B (s : State) : Result := .next (runSetR 6 .b s)

/-- SET 6,C (R275). -/
def execSet_6_C (s : State) : Result := .next (runSetR 6 .c s)

/-- SET 6,D (R275). -/
def execSet_6_D (s : State) : Result := .next (runSetR 6 .d s)

/-- SET 6,E (R275). -/
def execSet_6_E (s : State) : Result := .next (runSetR 6 .e s)

/-- SET 6,H (R275). -/
def execSet_6_H (s : State) : Result := .next (runSetR 6 .h s)

/-- SET 6,L (R275). -/
def execSet_6_L (s : State) : Result := .next (runSetR 6 .l s)

/-- SET 6,A (R275). -/
def execSet_6_A (s : State) : Result := .next (runSetR 6 .a s)

/-- SET 7,B (R275). -/
def execSet_7_B (s : State) : Result := .next (runSetR 7 .b s)

/-- SET 7,C (R275). -/
def execSet_7_C (s : State) : Result := .next (runSetR 7 .c s)

/-- SET 7,D (R275). -/
def execSet_7_D (s : State) : Result := .next (runSetR 7 .d s)

/-- SET 7,E (R275). -/
def execSet_7_E (s : State) : Result := .next (runSetR 7 .e s)

/-- SET 7,H (R275). -/
def execSet_7_H (s : State) : Result := .next (runSetR 7 .h s)

/-- SET 7,L (R275). -/
def execSet_7_L (s : State) : Result := .next (runSetR 7 .l s)

/-- SET 7,A (R275). -/
def execSet_7_A (s : State) : Result := .next (runSetR 7 .a s)

/-- SET 0,(HL) (R276). -/
def execSet_0_atHL (s : State) : Result := .next (runSetAtHl 0 s)

/-- SET 1,(HL) (R276). -/
def execSet_1_atHL (s : State) : Result := .next (runSetAtHl 1 s)

/-- SET 2,(HL) (R276). -/
def execSet_2_atHL (s : State) : Result := .next (runSetAtHl 2 s)

/-- SET 3,(HL) (R276). -/
def execSet_3_atHL (s : State) : Result := .next (runSetAtHl 3 s)

/-- SET 4,(HL) (R276). -/
def execSet_4_atHL (s : State) : Result := .next (runSetAtHl 4 s)

/-- SET 5,(HL) (R276). -/
def execSet_5_atHL (s : State) : Result := .next (runSetAtHl 5 s)

/-- SET 6,(HL) (R276). -/
def execSet_6_atHL (s : State) : Result := .next (runSetAtHl 6 s)

/-- SET 7,(HL) (R276). -/
def execSet_7_atHL (s : State) : Result := .next (runSetAtHl 7 s)

end Sys2Proof.Machine
end

