-- ==== Sys2Proof/Machine/Control.lean ====
section
/-! DEFINITION. Control transfer (46_control.md, R290 to R300). No rule here writes a flag; conditions read the flags before the instruction (R29). First the rule of each form, an operation on states; then the meaning of each row of the opcode table. -/

namespace Sys2Proof.Machine

/-- JP nn (R290). -/
def runJpNn (nn : Word) (s : State) : State := s.jump nn

/-- JP cc,nn (R291). -/
def runJpCcNn (cc : Cond) (nn : Word) (s : State) : State :=
  if s.cond cc then s.jump nn else s.advance 3

/-- JP HL (R292): the target is HL itself. -/
def runJpHl (s : State) : State := s.jump s.hl

/-- JR e (R293): relative to the address after the instruction's two bytes. -/
def runJrE (e : Byte) (s : State) : State := s.jump (s.pc + 2 + sext e)

/-- JR cc,e (R294). -/
def runJrCcE (cc : Cond) (e : Byte) (s : State) : State :=
  if s.cond cc then runJrE e s else s.advance 2

/-- CALL nn (R295): the return address is that of the next instruction. -/
def runCallNn (nn : Word) (s : State) : State := (s.push16 (s.pc + 3)).jump nn

/-- CALL cc,nn (R296). -/
def runCallCcNn (cc : Cond) (nn : Word) (s : State) : State :=
  if s.cond cc then runCallNn nn s else s.advance 3

/-- RET (R297). -/
def runRet (s : State) : State := s.returnFromCall

/-- RET cc (R298). -/
def runRetCc (cc : Cond) (s : State) : State :=
  if s.cond cc then s.returnFromCall else s.advance 1

/-- RETI (R299): IME at once, IME_PENDING not written. -/
def runReti (s : State) : State := s.returnFromInterrupt

/-- The fixed vector t * 8 (R114). -/
def rstTarget (t : Fin 8) : Word := BitVec.ofNat 16 (8 * t.val)

/-- RST t (R300). -/
def runRst (t : Fin 8) (s : State) : State := (s.push16 (s.pc + 1)).jump (rstTarget t)

/-! ### The rows -/

/-- JP nn (R290). -/
def execJp_nn (nn : Word) (s : State) : Result := .next (runJpNn nn s)

/-- JP NZ,nn (R291). -/
def execJp_NZ_nn (nn : Word) (s : State) : Result := .next (runJpCcNn .nz nn s)

/-- JP Z,nn (R291). -/
def execJp_Z_nn (nn : Word) (s : State) : Result := .next (runJpCcNn .z nn s)

/-- JP NC,nn (R291). -/
def execJp_NC_nn (nn : Word) (s : State) : Result := .next (runJpCcNn .nc nn s)

/-- JP C,nn (R291). -/
def execJp_C_nn (nn : Word) (s : State) : Result := .next (runJpCcNn .c nn s)

/-- JP HL (R292). -/
def execJp_HL (s : State) : Result := .next (runJpHl s)

/-- JR e (R293). -/
def execJr_e (e : Byte) (s : State) : Result := .next (runJrE e s)

/-- JR NZ,e (R294). -/
def execJr_NZ_e (e : Byte) (s : State) : Result := .next (runJrCcE .nz e s)

/-- JR Z,e (R294). -/
def execJr_Z_e (e : Byte) (s : State) : Result := .next (runJrCcE .z e s)

/-- JR NC,e (R294). -/
def execJr_NC_e (e : Byte) (s : State) : Result := .next (runJrCcE .nc e s)

/-- JR C,e (R294). -/
def execJr_C_e (e : Byte) (s : State) : Result := .next (runJrCcE .c e s)

/-- CALL nn (R295). -/
def execCall_nn (nn : Word) (s : State) : Result := .next (runCallNn nn s)

/-- CALL NZ,nn (R296). -/
def execCall_NZ_nn (nn : Word) (s : State) : Result := .next (runCallCcNn .nz nn s)

/-- CALL Z,nn (R296). -/
def execCall_Z_nn (nn : Word) (s : State) : Result := .next (runCallCcNn .z nn s)

/-- CALL NC,nn (R296). -/
def execCall_NC_nn (nn : Word) (s : State) : Result := .next (runCallCcNn .nc nn s)

/-- CALL C,nn (R296). -/
def execCall_C_nn (nn : Word) (s : State) : Result := .next (runCallCcNn .c nn s)

/-- RET (R297). -/
def execRet (s : State) : Result := .next (runRet s)

/-- RET NZ (R298). -/
def execRet_NZ (s : State) : Result := .next (runRetCc .nz s)

/-- RET Z (R298). -/
def execRet_Z (s : State) : Result := .next (runRetCc .z s)

/-- RET NC (R298). -/
def execRet_NC (s : State) : Result := .next (runRetCc .nc s)

/-- RET C (R298). -/
def execRet_C (s : State) : Result := .next (runRetCc .c s)

/-- RETI (R299). -/
def execReti (s : State) : Result := .next (runReti s)

/-- RST 00h (R300). -/
def execRst_00h (s : State) : Result := .next (runRst 0 s)

/-- RST 08h (R300). -/
def execRst_08h (s : State) : Result := .next (runRst 1 s)

/-- RST 10h (R300). -/
def execRst_10h (s : State) : Result := .next (runRst 2 s)

/-- RST 18h (R300). -/
def execRst_18h (s : State) : Result := .next (runRst 3 s)

/-- RST 20h (R300). -/
def execRst_20h (s : State) : Result := .next (runRst 4 s)

/-- RST 28h (R300). -/
def execRst_28h (s : State) : Result := .next (runRst 5 s)

/-- RST 30h (R300). -/
def execRst_30h (s : State) : Result := .next (runRst 6 s)

/-- RST 38h (R300). -/
def execRst_38h (s : State) : Result := .next (runRst 7 s)

end Sys2Proof.Machine
end

