-- ==== Sys2Proof/Machine/Load16.lean ====
section
/-! DEFINITION. 16-bit loads and the stack instructions (42_load16_stack.md, R172 to R177). Only POP AF writes flags. First the rule of each form, an operation on states; then the meaning of each row of the opcode table. -/

namespace Sys2Proof.Machine

/-- LD rr,nn (R172). -/
def runLdRrNn (p : Reg16) (nn : Word) (s : State) : State := (s.setR16 p nn).advance 3

/-- LD (nn),SP (R173). -/
def runLdAtNnSp (nn : Word) (s : State) : State := (s.writeWord nn s.sp).advance 3

/-- LD SP,HL (R174). -/
def runLdSpHl (s : State) : State := (s.setR16 .sp s.hl).advance 1

/-- PUSH rr (R175): the value pushed is read before SP changes. -/
def runPush (q : RegStk) (s : State) : State := (s.push16 (s.stk q)).advance 1

/-- POP rr and POP AF (R176, R177): the popped word goes to the pair; for AF its low byte goes to the flags. -/
def runPop (q : RegStk) (s : State) : State :=
  let x := s.pop16
  (x.2.setStk q x.1).advance 1

/-! ### The rows -/

/-- LD BC,nn (R172). -/
def execLd_BC_nn (nn : Word) (s : State) : Result := .next (runLdRrNn .bc nn s)

/-- LD DE,nn (R172). -/
def execLd_DE_nn (nn : Word) (s : State) : Result := .next (runLdRrNn .de nn s)

/-- LD HL,nn (R172). -/
def execLd_HL_nn (nn : Word) (s : State) : Result := .next (runLdRrNn .hl nn s)

/-- LD SP,nn (R172). -/
def execLd_SP_nn (nn : Word) (s : State) : Result := .next (runLdRrNn .sp nn s)

/-- LD (nn),SP (R173). -/
def execLd_atnn_SP (nn : Word) (s : State) : Result := .next (runLdAtNnSp nn s)

/-- LD SP,HL (R174). -/
def execLd_SP_HL (s : State) : Result := .next (runLdSpHl s)

/-- PUSH BC (R175). -/
def execPush_BC (s : State) : Result := .next (runPush .bc s)

/-- PUSH DE (R175). -/
def execPush_DE (s : State) : Result := .next (runPush .de s)

/-- PUSH HL (R175). -/
def execPush_HL (s : State) : Result := .next (runPush .hl s)

/-- PUSH AF (R175). -/
def execPush_AF (s : State) : Result := .next (runPush .af s)

/-- POP BC (R176). -/
def execPop_BC (s : State) : Result := .next (runPop .bc s)

/-- POP DE (R176). -/
def execPop_DE (s : State) : Result := .next (runPop .de s)

/-- POP HL (R176). -/
def execPop_HL (s : State) : Result := .next (runPop .hl s)

/-- POP AF (R177). -/
def execPop_AF (s : State) : Result := .next (runPop .af s)

end Sys2Proof.Machine
end

