-- ==== Sys2Proof/Machine/Load8.lean ====
section
/-! DEFINITION. 8-bit loads and stores (41_load8.md, R140 to R158). No rule here writes a flag. First the rule of each form, an operation on states; then the meaning of each row of the opcode table. -/

namespace Sys2Proof.Machine

/-- LD r,r' (R140). -/
def runLdRR (dst src : Reg8) (s : State) : State := (s.setR8 dst (s.r8 src)).advance 1

/-- LD r,n (R141). -/
def runLdRN (dst : Reg8) (n : Byte) (s : State) : State := (s.setR8 dst n).advance 2

/-- LD r,(HL) (R142): the address is HL as it was before the instruction. -/
def runLdRAtHl (dst : Reg8) (s : State) : State := (s.setR8 dst (s.read s.hl)).advance 1

/-- LD (HL),r (R143). -/
def runLdAtHlR (src : Reg8) (s : State) : State := (s.write s.hl (s.r8 src)).advance 1

/-- LD (HL),n (R144). -/
def runLdAtHlN (n : Byte) (s : State) : State := (s.write s.hl n).advance 2

/-- A <- the byte at an address, by an instruction of `len` bytes. -/
def loadA (addr : Word) (len : Word) (s : State) : State := (s.setR8 .a (s.read addr)).advance len

/-- A stored at an address, by an instruction of `len` bytes. -/
def storeA (addr : Word) (len : Word) (s : State) : State := (s.write addr s.a).advance len

/-- LD A,(BC) (R145). -/
def runLdAAtBc (s : State) : State := loadA s.bc 1 s

/-- LD A,(DE) (R146). -/
def runLdAAtDe (s : State) : State := loadA s.de 1 s

/-- LD (BC),A (R147). -/
def runLdAtBcA (s : State) : State := storeA s.bc 1 s

/-- LD (DE),A (R148). -/
def runLdAtDeA (s : State) : State := storeA s.de 1 s

/-- LD A,(nn) (R149). -/
def runLdAAtNn (nn : Word) (s : State) : State := loadA nn 3 s

/-- LD (nn),A (R150). -/
def runLdAtNnA (nn : Word) (s : State) : State := storeA nn 3 s

/-- LDH A,(C) (R151). -/
def runLdhAAtC (s : State) : State := loadA (highPage s.c) 1 s

/-- LDH (C),A (R152). -/
def runLdhAtCA (s : State) : State := storeA (highPage s.c) 1 s

/-- LDH A,(n) (R153). -/
def runLdhAAtN (n : Byte) (s : State) : State := loadA (highPage n) 2 s

/-- LDH (n),A (R154). -/
def runLdhAtNA (n : Byte) (s : State) : State := storeA (highPage n) 2 s

/-- LD (HL+),A (R155): HL moves after the access. -/
def runLdAtHlIncA (s : State) : State := ((s.write s.hl s.a).setHl (s.hl + 1)).advance 1

/-- LD (HL-),A (R156). -/
def runLdAtHlDecA (s : State) : State := ((s.write s.hl s.a).setHl (s.hl - 1)).advance 1

/-- LD A,(HL+) (R157). -/
def runLdAAtHlInc (s : State) : State := ((s.setR8 .a (s.read s.hl)).setHl (s.hl + 1)).advance 1

/-- LD A,(HL-) (R158). -/
def runLdAAtHlDec (s : State) : State := ((s.setR8 .a (s.read s.hl)).setHl (s.hl - 1)).advance 1

/-! ### The rows -/

/-- LD B,B (R140). -/
def execLd_B_B (s : State) : Result := .next (runLdRR .b .b s)

/-- LD B,C (R140). -/
def execLd_B_C (s : State) : Result := .next (runLdRR .b .c s)

/-- LD B,D (R140). -/
def execLd_B_D (s : State) : Result := .next (runLdRR .b .d s)

/-- LD B,E (R140). -/
def execLd_B_E (s : State) : Result := .next (runLdRR .b .e s)

/-- LD B,H (R140). -/
def execLd_B_H (s : State) : Result := .next (runLdRR .b .h s)

/-- LD B,L (R140). -/
def execLd_B_L (s : State) : Result := .next (runLdRR .b .l s)

/-- LD B,A (R140). -/
def execLd_B_A (s : State) : Result := .next (runLdRR .b .a s)

/-- LD C,B (R140). -/
def execLd_C_B (s : State) : Result := .next (runLdRR .c .b s)

/-- LD C,C (R140). -/
def execLd_C_C (s : State) : Result := .next (runLdRR .c .c s)

/-- LD C,D (R140). -/
def execLd_C_D (s : State) : Result := .next (runLdRR .c .d s)

/-- LD C,E (R140). -/
def execLd_C_E (s : State) : Result := .next (runLdRR .c .e s)

/-- LD C,H (R140). -/
def execLd_C_H (s : State) : Result := .next (runLdRR .c .h s)

/-- LD C,L (R140). -/
def execLd_C_L (s : State) : Result := .next (runLdRR .c .l s)

/-- LD C,A (R140). -/
def execLd_C_A (s : State) : Result := .next (runLdRR .c .a s)

/-- LD D,B (R140). -/
def execLd_D_B (s : State) : Result := .next (runLdRR .d .b s)

/-- LD D,C (R140). -/
def execLd_D_C (s : State) : Result := .next (runLdRR .d .c s)

/-- LD D,D (R140). -/
def execLd_D_D (s : State) : Result := .next (runLdRR .d .d s)

/-- LD D,E (R140). -/
def execLd_D_E (s : State) : Result := .next (runLdRR .d .e s)

/-- LD D,H (R140). -/
def execLd_D_H (s : State) : Result := .next (runLdRR .d .h s)

/-- LD D,L (R140). -/
def execLd_D_L (s : State) : Result := .next (runLdRR .d .l s)

/-- LD D,A (R140). -/
def execLd_D_A (s : State) : Result := .next (runLdRR .d .a s)

/-- LD E,B (R140). -/
def execLd_E_B (s : State) : Result := .next (runLdRR .e .b s)

/-- LD E,C (R140). -/
def execLd_E_C (s : State) : Result := .next (runLdRR .e .c s)

/-- LD E,D (R140). -/
def execLd_E_D (s : State) : Result := .next (runLdRR .e .d s)

/-- LD E,E (R140). -/
def execLd_E_E (s : State) : Result := .next (runLdRR .e .e s)

/-- LD E,H (R140). -/
def execLd_E_H (s : State) : Result := .next (runLdRR .e .h s)

/-- LD E,L (R140). -/
def execLd_E_L (s : State) : Result := .next (runLdRR .e .l s)

/-- LD E,A (R140). -/
def execLd_E_A (s : State) : Result := .next (runLdRR .e .a s)

/-- LD H,B (R140). -/
def execLd_H_B (s : State) : Result := .next (runLdRR .h .b s)

/-- LD H,C (R140). -/
def execLd_H_C (s : State) : Result := .next (runLdRR .h .c s)

/-- LD H,D (R140). -/
def execLd_H_D (s : State) : Result := .next (runLdRR .h .d s)

/-- LD H,E (R140). -/
def execLd_H_E (s : State) : Result := .next (runLdRR .h .e s)

/-- LD H,H (R140). -/
def execLd_H_H (s : State) : Result := .next (runLdRR .h .h s)

/-- LD H,L (R140). -/
def execLd_H_L (s : State) : Result := .next (runLdRR .h .l s)

/-- LD H,A (R140). -/
def execLd_H_A (s : State) : Result := .next (runLdRR .h .a s)

/-- LD L,B (R140). -/
def execLd_L_B (s : State) : Result := .next (runLdRR .l .b s)

/-- LD L,C (R140). -/
def execLd_L_C (s : State) : Result := .next (runLdRR .l .c s)

/-- LD L,D (R140). -/
def execLd_L_D (s : State) : Result := .next (runLdRR .l .d s)

/-- LD L,E (R140). -/
def execLd_L_E (s : State) : Result := .next (runLdRR .l .e s)

/-- LD L,H (R140). -/
def execLd_L_H (s : State) : Result := .next (runLdRR .l .h s)

/-- LD L,L (R140). -/
def execLd_L_L (s : State) : Result := .next (runLdRR .l .l s)

/-- LD L,A (R140). -/
def execLd_L_A (s : State) : Result := .next (runLdRR .l .a s)

/-- LD A,B (R140). -/
def execLd_A_B (s : State) : Result := .next (runLdRR .a .b s)

/-- LD A,C (R140). -/
def execLd_A_C (s : State) : Result := .next (runLdRR .a .c s)

/-- LD A,D (R140). -/
def execLd_A_D (s : State) : Result := .next (runLdRR .a .d s)

/-- LD A,E (R140). -/
def execLd_A_E (s : State) : Result := .next (runLdRR .a .e s)

/-- LD A,H (R140). -/
def execLd_A_H (s : State) : Result := .next (runLdRR .a .h s)

/-- LD A,L (R140). -/
def execLd_A_L (s : State) : Result := .next (runLdRR .a .l s)

/-- LD A,A (R140). -/
def execLd_A_A (s : State) : Result := .next (runLdRR .a .a s)

/-- LD B,n (R141). -/
def execLd_B_n (n : Byte) (s : State) : Result := .next (runLdRN .b n s)

/-- LD C,n (R141). -/
def execLd_C_n (n : Byte) (s : State) : Result := .next (runLdRN .c n s)

/-- LD D,n (R141). -/
def execLd_D_n (n : Byte) (s : State) : Result := .next (runLdRN .d n s)

/-- LD E,n (R141). -/
def execLd_E_n (n : Byte) (s : State) : Result := .next (runLdRN .e n s)

/-- LD H,n (R141). -/
def execLd_H_n (n : Byte) (s : State) : Result := .next (runLdRN .h n s)

/-- LD L,n (R141). -/
def execLd_L_n (n : Byte) (s : State) : Result := .next (runLdRN .l n s)

/-- LD A,n (R141). -/
def execLd_A_n (n : Byte) (s : State) : Result := .next (runLdRN .a n s)

/-- LD B,(HL) (R142). -/
def execLd_B_atHL (s : State) : Result := .next (runLdRAtHl .b s)

/-- LD C,(HL) (R142). -/
def execLd_C_atHL (s : State) : Result := .next (runLdRAtHl .c s)

/-- LD D,(HL) (R142). -/
def execLd_D_atHL (s : State) : Result := .next (runLdRAtHl .d s)

/-- LD E,(HL) (R142). -/
def execLd_E_atHL (s : State) : Result := .next (runLdRAtHl .e s)

/-- LD H,(HL) (R142). -/
def execLd_H_atHL (s : State) : Result := .next (runLdRAtHl .h s)

/-- LD L,(HL) (R142). -/
def execLd_L_atHL (s : State) : Result := .next (runLdRAtHl .l s)

/-- LD A,(HL) (R142). -/
def execLd_A_atHL (s : State) : Result := .next (runLdRAtHl .a s)

/-- LD (HL),B (R143). -/
def execLd_atHL_B (s : State) : Result := .next (runLdAtHlR .b s)

/-- LD (HL),C (R143). -/
def execLd_atHL_C (s : State) : Result := .next (runLdAtHlR .c s)

/-- LD (HL),D (R143). -/
def execLd_atHL_D (s : State) : Result := .next (runLdAtHlR .d s)

/-- LD (HL),E (R143). -/
def execLd_atHL_E (s : State) : Result := .next (runLdAtHlR .e s)

/-- LD (HL),H (R143). -/
def execLd_atHL_H (s : State) : Result := .next (runLdAtHlR .h s)

/-- LD (HL),L (R143). -/
def execLd_atHL_L (s : State) : Result := .next (runLdAtHlR .l s)

/-- LD (HL),A (R143). -/
def execLd_atHL_A (s : State) : Result := .next (runLdAtHlR .a s)

/-- LD (HL),n (R144). -/
def execLd_atHL_n (n : Byte) (s : State) : Result := .next (runLdAtHlN n s)

/-- LD A,(BC) (R145). -/
def execLd_A_atBC (s : State) : Result := .next (runLdAAtBc s)

/-- LD A,(DE) (R146). -/
def execLd_A_atDE (s : State) : Result := .next (runLdAAtDe s)

/-- LD (BC),A (R147). -/
def execLd_atBC_A (s : State) : Result := .next (runLdAtBcA s)

/-- LD (DE),A (R148). -/
def execLd_atDE_A (s : State) : Result := .next (runLdAtDeA s)

/-- LD A,(nn) (R149). -/
def execLd_A_atnn (nn : Word) (s : State) : Result := .next (runLdAAtNn nn s)

/-- LD (nn),A (R150). -/
def execLd_atnn_A (nn : Word) (s : State) : Result := .next (runLdAtNnA nn s)

/-- LDH A,(C) (R151). -/
def execLdh_A_atC (s : State) : Result := .next (runLdhAAtC s)

/-- LDH (C),A (R152). -/
def execLdh_atC_A (s : State) : Result := .next (runLdhAtCA s)

/-- LDH A,(n) (R153). -/
def execLdh_A_atn (n : Byte) (s : State) : Result := .next (runLdhAAtN n s)

/-- LDH (n),A (R154). -/
def execLdh_atn_A (n : Byte) (s : State) : Result := .next (runLdhAtNA n s)

/-- LD (HL+),A (R155). -/
def execLd_atHLinc_A (s : State) : Result := .next (runLdAtHlIncA s)

/-- LD (HL-),A (R156). -/
def execLd_atHLdec_A (s : State) : Result := .next (runLdAtHlDecA s)

/-- LD A,(HL+) (R157). -/
def execLd_A_atHLinc (s : State) : Result := .next (runLdAAtHlInc s)

/-- LD A,(HL-) (R158). -/
def execLd_A_atHLdec (s : State) : Result := .next (runLdAAtHlDec s)

end Sys2Proof.Machine
end

