-- ==== Sys2Proof/Machine/Rotate.lean ====
section
/-! DEFINITION. Rotates and shifts (45_rotate_shift_bit.md, R250 to R270). First the rule of each form, an operation on states; then the meaning of each row of the opcode table. -/

namespace Sys2Proof.Machine

/-- A rotate of A by the primary table: Zf is always cleared (R250 to R253). -/
def rotateA (op : ShiftOp) (s : State) : State :=
  let x := shiftResult op s.a s.cf
  ((s.setR8 .a x.res).setFlags false false false x.c).advance 1

/-- RLCA (R250). -/
def runRlca (s : State) : State := rotateA .rlc s

/-- RRCA (R251). -/
def runRrca (s : State) : State := rotateA .rrc s

/-- RLA (R252). -/
def runRla (s : State) : State := rotateA .rl s

/-- RRA (R253). -/
def runRra (s : State) : State := rotateA .rr s

/-- RLC, RRC, RL, RR, SLA, SRA, SWAP, SRL on a register (R255, R257, R259, R261, R263, R265, R267, R269). -/
def runShiftR (op : ShiftOp) (r : Reg8) (s : State) : State :=
  let x := shiftResult op (s.r8 r) s.cf
  ((s.setR8 r x.res).setFlags (x.res == 0) false false x.c).advance 2

/-- The same on the byte at HL (R256, R258, R260, R262, R264, R266, R268, R270). -/
def runShiftAtHl (op : ShiftOp) (s : State) : State :=
  let x := shiftResult op (s.read s.hl) s.cf
  ((s.write s.hl x.res).setFlags (x.res == 0) false false x.c).advance 2

/-! ### The rows -/

/-- RLCA (R250). -/
def execRlca (s : State) : Result := .next (runRlca s)

/-- RRCA (R251). -/
def execRrca (s : State) : Result := .next (runRrca s)

/-- RLA (R252). -/
def execRla (s : State) : Result := .next (runRla s)

/-- RRA (R253). -/
def execRra (s : State) : Result := .next (runRra s)

/-- RLC B (R255). -/
def execRlc_B (s : State) : Result := .next (runShiftR .rlc .b s)

/-- RLC C (R255). -/
def execRlc_C (s : State) : Result := .next (runShiftR .rlc .c s)

/-- RLC D (R255). -/
def execRlc_D (s : State) : Result := .next (runShiftR .rlc .d s)

/-- RLC E (R255). -/
def execRlc_E (s : State) : Result := .next (runShiftR .rlc .e s)

/-- RLC H (R255). -/
def execRlc_H (s : State) : Result := .next (runShiftR .rlc .h s)

/-- RLC L (R255). -/
def execRlc_L (s : State) : Result := .next (runShiftR .rlc .l s)

/-- RLC A (R255). -/
def execRlc_A (s : State) : Result := .next (runShiftR .rlc .a s)

/-- RLC (HL) (R256). -/
def execRlc_atHL (s : State) : Result := .next (runShiftAtHl .rlc s)

/-- RRC B (R257). -/
def execRrc_B (s : State) : Result := .next (runShiftR .rrc .b s)

/-- RRC C (R257). -/
def execRrc_C (s : State) : Result := .next (runShiftR .rrc .c s)

/-- RRC D (R257). -/
def execRrc_D (s : State) : Result := .next (runShiftR .rrc .d s)

/-- RRC E (R257). -/
def execRrc_E (s : State) : Result := .next (runShiftR .rrc .e s)

/-- RRC H (R257). -/
def execRrc_H (s : State) : Result := .next (runShiftR .rrc .h s)

/-- RRC L (R257). -/
def execRrc_L (s : State) : Result := .next (runShiftR .rrc .l s)

/-- RRC A (R257). -/
def execRrc_A (s : State) : Result := .next (runShiftR .rrc .a s)

/-- RRC (HL) (R258). -/
def execRrc_atHL (s : State) : Result := .next (runShiftAtHl .rrc s)

/-- RL B (R259). -/
def execRl_B (s : State) : Result := .next (runShiftR .rl .b s)

/-- RL C (R259). -/
def execRl_C (s : State) : Result := .next (runShiftR .rl .c s)

/-- RL D (R259). -/
def execRl_D (s : State) : Result := .next (runShiftR .rl .d s)

/-- RL E (R259). -/
def execRl_E (s : State) : Result := .next (runShiftR .rl .e s)

/-- RL H (R259). -/
def execRl_H (s : State) : Result := .next (runShiftR .rl .h s)

/-- RL L (R259). -/
def execRl_L (s : State) : Result := .next (runShiftR .rl .l s)

/-- RL A (R259). -/
def execRl_A (s : State) : Result := .next (runShiftR .rl .a s)

/-- RL (HL) (R260). -/
def execRl_atHL (s : State) : Result := .next (runShiftAtHl .rl s)

/-- RR B (R261). -/
def execRr_B (s : State) : Result := .next (runShiftR .rr .b s)

/-- RR C (R261). -/
def execRr_C (s : State) : Result := .next (runShiftR .rr .c s)

/-- RR D (R261). -/
def execRr_D (s : State) : Result := .next (runShiftR .rr .d s)

/-- RR E (R261). -/
def execRr_E (s : State) : Result := .next (runShiftR .rr .e s)

/-- RR H (R261). -/
def execRr_H (s : State) : Result := .next (runShiftR .rr .h s)

/-- RR L (R261). -/
def execRr_L (s : State) : Result := .next (runShiftR .rr .l s)

/-- RR A (R261). -/
def execRr_A (s : State) : Result := .next (runShiftR .rr .a s)

/-- RR (HL) (R262). -/
def execRr_atHL (s : State) : Result := .next (runShiftAtHl .rr s)

/-- SLA B (R263). -/
def execSla_B (s : State) : Result := .next (runShiftR .sla .b s)

/-- SLA C (R263). -/
def execSla_C (s : State) : Result := .next (runShiftR .sla .c s)

/-- SLA D (R263). -/
def execSla_D (s : State) : Result := .next (runShiftR .sla .d s)

/-- SLA E (R263). -/
def execSla_E (s : State) : Result := .next (runShiftR .sla .e s)

/-- SLA H (R263). -/
def execSla_H (s : State) : Result := .next (runShiftR .sla .h s)

/-- SLA L (R263). -/
def execSla_L (s : State) : Result := .next (runShiftR .sla .l s)

/-- SLA A (R263). -/
def execSla_A (s : State) : Result := .next (runShiftR .sla .a s)

/-- SLA (HL) (R264). -/
def execSla_atHL (s : State) : Result := .next (runShiftAtHl .sla s)

/-- SRA B (R265). -/
def execSra_B (s : State) : Result := .next (runShiftR .sra .b s)

/-- SRA C (R265). -/
def execSra_C (s : State) : Result := .next (runShiftR .sra .c s)

/-- SRA D (R265). -/
def execSra_D (s : State) : Result := .next (runShiftR .sra .d s)

/-- SRA E (R265). -/
def execSra_E (s : State) : Result := .next (runShiftR .sra .e s)

/-- SRA H (R265). -/
def execSra_H (s : State) : Result := .next (runShiftR .sra .h s)

/-- SRA L (R265). -/
def execSra_L (s : State) : Result := .next (runShiftR .sra .l s)

/-- SRA A (R265). -/
def execSra_A (s : State) : Result := .next (runShiftR .sra .a s)

/-- SRA (HL) (R266). -/
def execSra_atHL (s : State) : Result := .next (runShiftAtHl .sra s)

/-- SWAP B (R267). -/
def execSwap_B (s : State) : Result := .next (runShiftR .swap .b s)

/-- SWAP C (R267). -/
def execSwap_C (s : State) : Result := .next (runShiftR .swap .c s)

/-- SWAP D (R267). -/
def execSwap_D (s : State) : Result := .next (runShiftR .swap .d s)

/-- SWAP E (R267). -/
def execSwap_E (s : State) : Result := .next (runShiftR .swap .e s)

/-- SWAP H (R267). -/
def execSwap_H (s : State) : Result := .next (runShiftR .swap .h s)

/-- SWAP L (R267). -/
def execSwap_L (s : State) : Result := .next (runShiftR .swap .l s)

/-- SWAP A (R267). -/
def execSwap_A (s : State) : Result := .next (runShiftR .swap .a s)

/-- SWAP (HL) (R268). -/
def execSwap_atHL (s : State) : Result := .next (runShiftAtHl .swap s)

/-- SRL B (R269). -/
def execSrl_B (s : State) : Result := .next (runShiftR .srl .b s)

/-- SRL C (R269). -/
def execSrl_C (s : State) : Result := .next (runShiftR .srl .c s)

/-- SRL D (R269). -/
def execSrl_D (s : State) : Result := .next (runShiftR .srl .d s)

/-- SRL E (R269). -/
def execSrl_E (s : State) : Result := .next (runShiftR .srl .e s)

/-- SRL H (R269). -/
def execSrl_H (s : State) : Result := .next (runShiftR .srl .h s)

/-- SRL L (R269). -/
def execSrl_L (s : State) : Result := .next (runShiftR .srl .l s)

/-- SRL A (R269). -/
def execSrl_A (s : State) : Result := .next (runShiftR .srl .a s)

/-- SRL (HL) (R270). -/
def execSrl_atHL (s : State) : Result := .next (runShiftAtHl .srl s)

end Sys2Proof.Machine
end

