-- ==== Sys2Proof/Machine/System.lean ====
section
/-! DEFINITION. System instructions (47_system.md, R320 to R326). The halted and stopped steps and the EI delay (R322, R324, R327) are in Ops.lean and Engine.lean. First the rule of each form, an operation on states; then the meaning of each row of the opcode table. -/

namespace Sys2Proof.Machine

/-- NOP (R320). -/
def runNop (s : State) : State := s.advance 1

/-- HALT (R321): with a request pending it acts as a NOP. -/
def runHalt (s : State) : State :=
  if s.pending = 0 then { s.advance 1 with halted := true } else s.advance 1

/-- STOP (R323): the second byte is read and ignored. -/
def runStop (_x : Byte) (s : State) : State := { s.advance 2 with stopped := true }

/-- DI (R325): at once, and it cancels a pending enable. -/
def runDi (s : State) : State := { s.advance 1 with ime := false, imePending := false }

/-- EI (R326): IME itself is written by the delay (R327). -/
def runEi (s : State) : State := { s.advance 1 with imePending := true }

/-! ### The rows -/

/-- NOP (R320). -/
def execNop (s : State) : Result := .next (runNop s)

/-- HALT (R321). -/
def execHalt (s : State) : Result := .next (runHalt s)

/-- STOP (R323). -/
def execStop (x : Byte) (s : State) : Result := .next (runStop x s)

/-- DI (R325). -/
def execDi (s : State) : Result := .next (runDi s)

/-- EI (R326). -/
def execEi (s : State) : Result := .next (runEi s)

end Sys2Proof.Machine
end

