-- ==== Sys2Proof/Machine/Engine.lean ====
section
/-! DEFINITION. One call of step() under any parameters (R100), with the cases in the spec's order (R357). -/

namespace Sys2Proof.Machine

/-- The fetch-and-dispatch case (R100): fetch, decode, run the routine, apply the EI delay; an absent opcode is the fault of R341 and changes nothing (R104). -/
def dispatchStep (cfg : Config) (s : State) : Result :=
  match s.fetch cfg with
  | .unimplemented opcode extended => .fault (.unimplementedOpcode opcode extended)
  | .instr i =>
    match exec i s with
    | .next t => .next (t.eiDelay s.imePending i)
    | .fault r => .fault r
    | .refused r => .refused r

/-- `step()` (R100): stopped, else interrupt entry, else halted, else fetch and dispatch (R357). -/
def stepWith (cfg : Config) (s : State) : Result :=
  if s.stopped then .next s
  else if s.takesInterrupt cfg then .next s.interruptEntry
  else if s.halted then .next s.haltedStep
  else dispatchStep cfg s

end Sys2Proof.Machine
end

