-- ==== Sys2Proof/Machine/Step.lean ====
section
/-! DEFINITION. The machine's step at the default parameters (R6), and the placing of an instruction where it fetches. -/

namespace Sys2Proof.Machine

/-- `step()` with `PRESENT_PRIMARY`, `PRESENT_EXT` and `INTERRUPT_DISPATCH` at their defaults; log entries 1 and 2. -/
def step (s : State) : Host.Outcome State Fault Refusal := stepWith standardConfig s

/-- `s` with the instruction of an opcode-table word stored where `step` fetches next; log entry 6. -/
def State.withFetchWord (s : State) (nbits w : Nat) : State :=
  s.placeCode standardConfig (tableBytes nbits w)

end Sys2Proof.Machine
end

