-- ==== Sys2Proof/Machine/Cycles.lean ====
section
/-! DEFINITION. The cycle count that step() returns (R121, R379, R380). Nothing in the machine reads it, so it is a function beside the step and no part of the state; log entry 3. -/

namespace Sys2Proof

open Machine

/-- The count of a routine: `return k` of its rule, for the flags the routine starts from (R380). -/
def Form.cycles (s : State) : Form → Nat
  | .ldRR _ _ => 4
  | .ldRN _ _ => 8
  | .ldRAtHl _ => 8
  | .ldAtHlR _ => 8
  | .ldAtHlN _ => 12
  | .ldAAtBc => 8
  | .ldAAtDe => 8
  | .ldAtBcA => 8
  | .ldAtDeA => 8
  | .ldAAtNn _ => 16
  | .ldAtNnA _ => 16
  | .ldhAAtC => 8
  | .ldhAtCA => 8
  | .ldhAAtN _ => 12
  | .ldhAtNA _ => 12
  | .ldAtHlIncA => 8
  | .ldAtHlDecA => 8
  | .ldAAtHlInc => 8
  | .ldAAtHlDec => 8
  | .ldRrNn _ _ => 12
  | .ldAtNnSp _ => 20
  | .ldSpHl => 8
  | .push _ => 16
  | .pop _ => 12
  | .aluR _ _ => 4
  | .aluAtHl _ => 8
  | .aluN _ _ => 8
  | .incR _ => 4
  | .incAtHl => 12
  | .decR _ => 4
  | .decAtHl => 12
  | .daa => 4
  | .cpl => 4
  | .scf => 4
  | .ccf => 4
  | .addHlRr _ => 8
  | .incRr _ => 8
  | .decRr _ => 8
  | .addSpE _ => 16
  | .ldHlSpE _ => 12
  | .rlca => 4
  | .rrca => 4
  | .rla => 4
  | .rra => 4
  | .shiftR _ _ => 8
  | .shiftAtHl _ => 16
  | .bitR _ _ => 8
  | .bitAtHl _ => 12
  | .resR _ _ => 8
  | .resAtHl _ => 16
  | .setR _ _ => 8
  | .setAtHl _ => 16
  | .jpNn _ => 16
  | .jpCcNn cc _ => if s.cond cc then 16 else 12
  | .jpHl => 4
  | .jrE _ => 12
  | .jrCcE cc _ => if s.cond cc then 12 else 8
  | .callNn _ => 24
  | .callCcNn cc _ => if s.cond cc then 24 else 12
  | .ret => 16
  | .retCc cc => if s.cond cc then 20 else 8
  | .reti => 16
  | .rst _ => 16
  | .nop => 4
  | .halt => 4
  | .stop _ => 4
  | .di => 4
  | .ei => 4

end Sys2Proof

namespace Sys2Proof.Machine

/-- The count a step returns: 4 when stopped or halted, 20 for an interrupt entry, the routine's own, 0 with a fault (R100, R104, R380). -/
def stepCycles (cfg : Config) (s : State) : Nat :=
  if s.stopped then 4
  else if s.takesInterrupt cfg then 20
  else if s.halted then 4
  else match s.fetch cfg with
    | .unimplemented _ _ => 0
    | .instr i => i.form.cycles s

end Sys2Proof.Machine
end

