-- ==== Sys2Proof/Machine/Footprint.lean ====
section
/-! DEFINITION. The footprint of each form: which bytes its rule stores to, which registers and flags it writes, and whether it branches. Frame statements are made in these terms. -/

namespace Sys2Proof

open Machine

/-- The addresses a form stores to, each the expression its meaning stores at, in the order of the stores. -/
def Form.stores (s : State) : Form → List Word
  | .ldAtHlR _ => [s.hl]
  | .ldAtHlN _ => [s.hl]
  | .ldAtBcA => [s.bc]
  | .ldAtDeA => [s.de]
  | .ldAtNnA nn => [nn]
  | .ldhAtCA => [highPage s.c]
  | .ldhAtNA n => [highPage n]
  | .ldAtHlIncA => [s.hl]
  | .ldAtHlDecA => [s.hl]
  | .ldAtNnSp nn => [nn, nn + 1]
  | .push _ => [s.sp - 1, s.sp - 1 - 1]
  | .incAtHl => [s.hl]
  | .decAtHl => [s.hl]
  | .shiftAtHl _ => [s.hl]
  | .resAtHl _ => [s.hl]
  | .setAtHl _ => [s.hl]
  | .callNn _ => [s.sp - 1, s.sp - 1 - 1]
  | .callCcNn cc _ => if s.cond cc then [s.sp - 1, s.sp - 1 - 1] else []
  | .rst _ => [s.sp - 1, s.sp - 1 - 1]
  | .ldRR .. | .ldRN .. | .ldRAtHl .. | .ldAAtBc | .ldAAtDe | .ldAAtNn .. | .ldhAAtC
  | .ldhAAtN .. | .ldAAtHlInc | .ldAAtHlDec | .ldRrNn .. | .ldSpHl | .pop .. | .aluR ..
  | .aluAtHl .. | .aluN .. | .incR .. | .decR .. | .daa | .cpl | .scf | .ccf | .addHlRr ..
  | .incRr .. | .decRr .. | .addSpE .. | .ldHlSpE .. | .rlca | .rrca | .rla | .rra | .shiftR ..
  | .bitR .. | .bitAtHl .. | .resR .. | .setR .. | .jpNn .. | .jpCcNn .. | .jpHl | .jrE ..
  | .jrCcE .. | .ret | .retCc .. | .reti | .nop | .halt | .stop .. | .di | .ei => []

/-- The general registers of a stack pair; F is no register (R22). -/
def RegStk.halves : RegStk → List Reg8
  | .bc => [.b, .c]
  | .de => [.d, .e]
  | .hl => [.h, .l]
  | .af => [.a]

/-- The general registers of a pair; SP is none. -/
def Reg16.halves : Reg16 → List Reg8
  | .bc => [.b, .c]
  | .de => [.d, .e]
  | .hl => [.h, .l]
  | .sp => []

/-- The general registers an ALU operation writes: A, but for CP (R212). -/
def AluOp.dests : AluOp → List Reg8
  | .cp => []
  | .add | .adc | .sub | .sbc | .and | .xor | .or => [.a]

/-- The general registers a form's rule writes. -/
def Form.dests : Form → List Reg8
  | .ldRR dst _ => [dst]
  | .ldRN dst _ => [dst]
  | .ldRAtHl dst => [dst]
  | .ldAAtBc => [.a]
  | .ldAAtDe => [.a]
  | .ldAAtNn _ => [.a]
  | .ldhAAtC => [.a]
  | .ldhAAtN _ => [.a]
  | .ldAtHlIncA => [.h, .l]
  | .ldAtHlDecA => [.h, .l]
  | .ldAAtHlInc => [.a, .h, .l]
  | .ldAAtHlDec => [.a, .h, .l]
  | .ldRrNn p _ => p.halves
  | .pop q => q.halves
  | .aluR op _ => op.dests
  | .aluAtHl op => op.dests
  | .aluN op _ => op.dests
  | .incR r => [r]
  | .decR r => [r]
  | .daa => [.a]
  | .cpl => [.a]
  | .addHlRr _ => [.h, .l]
  | .incRr p => p.halves
  | .decRr p => p.halves
  | .ldHlSpE _ => [.h, .l]
  | .rlca => [.a]
  | .rrca => [.a]
  | .rla => [.a]
  | .rra => [.a]
  | .shiftR _ r => [r]
  | .resR _ r => [r]
  | .setR _ r => [r]
  | .ldAtHlR .. | .ldAtHlN .. | .ldAtBcA | .ldAtDeA | .ldAtNnA .. | .ldhAtCA | .ldhAtNA ..
  | .ldAtNnSp .. | .ldSpHl | .push .. | .incAtHl | .decAtHl | .scf | .ccf | .addSpE ..
  | .shiftAtHl .. | .bitR .. | .bitAtHl .. | .resAtHl .. | .setAtHl .. | .jpNn .. | .jpCcNn ..
  | .jpHl | .jrE .. | .jrCcE .. | .callNn .. | .callCcNn .. | .ret | .retCc .. | .reti
  | .rst .. | .nop | .halt | .stop .. | .di | .ei => []

/-- Whether a form's rule writes SP. -/
def Form.writesSp : Form → Bool
  | .ldRrNn p _ => decide (p = .sp)
  | .ldSpHl => true
  | .push _ => true
  | .pop _ => true
  | .incRr p => decide (p = .sp)
  | .decRr p => decide (p = .sp)
  | .addSpE _ => true
  | .callNn _ => true
  | .callCcNn _ _ => true
  | .ret => true
  | .retCc _ => true
  | .reti => true
  | .rst _ => true
  | .ldRR .. | .ldRN .. | .ldRAtHl .. | .ldAtHlR .. | .ldAtHlN .. | .ldAAtBc | .ldAAtDe
  | .ldAtBcA | .ldAtDeA | .ldAAtNn .. | .ldAtNnA .. | .ldhAAtC | .ldhAtCA | .ldhAAtN ..
  | .ldhAtNA .. | .ldAtHlIncA | .ldAtHlDecA | .ldAAtHlInc | .ldAAtHlDec | .ldAtNnSp ..
  | .aluR .. | .aluAtHl .. | .aluN .. | .incR .. | .incAtHl | .decR .. | .decAtHl | .daa | .cpl
  | .scf | .ccf | .addHlRr .. | .ldHlSpE .. | .rlca | .rrca | .rla | .rra | .shiftR ..
  | .shiftAtHl .. | .bitR .. | .bitAtHl .. | .resR .. | .resAtHl .. | .setR .. | .setAtHl ..
  | .jpNn .. | .jpCcNn .. | .jpHl | .jrE .. | .jrCcE .. | .nop | .halt | .stop .. | .di | .ei =>
    false

/-- Whether a form's rule moves PC to a branch target (R105). -/
def Form.branches : Form → Bool
  | .jpNn _ => true
  | .jpCcNn _ _ => true
  | .jpHl => true
  | .jrE _ => true
  | .jrCcE _ _ => true
  | .callNn _ => true
  | .callCcNn _ _ => true
  | .ret => true
  | .retCc _ => true
  | .reti => true
  | .rst _ => true
  | .ldRR .. | .ldRN .. | .ldRAtHl .. | .ldAtHlR .. | .ldAtHlN .. | .ldAAtBc | .ldAAtDe
  | .ldAtBcA | .ldAtDeA | .ldAAtNn .. | .ldAtNnA .. | .ldhAAtC | .ldhAtCA | .ldhAAtN ..
  | .ldhAtNA .. | .ldAtHlIncA | .ldAtHlDecA | .ldAAtHlInc | .ldAAtHlDec | .ldRrNn ..
  | .ldAtNnSp .. | .ldSpHl | .push .. | .pop .. | .aluR .. | .aluAtHl .. | .aluN .. | .incR ..
  | .incAtHl | .decR .. | .decAtHl | .daa | .cpl | .scf | .ccf | .addHlRr .. | .incRr ..
  | .decRr .. | .addSpE .. | .ldHlSpE .. | .rlca | .rrca | .rla | .rra | .shiftR ..
  | .shiftAtHl .. | .bitR .. | .bitAtHl .. | .resR .. | .resAtHl .. | .setR .. | .setAtHl ..
  | .nop | .halt | .stop .. | .di | .ei => false

/-- One letter of the table's flag column (R12). -/
inductive FlagMark where
  /-- `-`: not written. -/
  | keep
  /-- `0` or `1`: written with that constant. -/
  | const (v : Bool)
  /-- A letter: written with the computed value. -/
  | computed
  deriving DecidableEq, Repr

/-- What a mark says of a flag's old and new value (R12). -/
def FlagMark.holds (m : FlagMark) (old new : Bool) : Prop :=
  match m with
  | .keep => new = old
  | .const v => new = v
  | .computed => True

/-- The table's column flags_ZNHC. -/
structure FlagMarks where
  z : FlagMark
  n : FlagMark
  h : FlagMark
  c : FlagMark
  deriving DecidableEq, Repr

/-- The flag column of an ALU operation (R191, R197, R203, R206, R209, R212). -/
def AluOp.marks : AluOp → FlagMarks
  | .add => ⟨.computed, .const false, .computed, .computed⟩
  | .adc => ⟨.computed, .const false, .computed, .computed⟩
  | .sub => ⟨.computed, .const true, .computed, .computed⟩
  | .sbc => ⟨.computed, .const true, .computed, .computed⟩
  | .and => ⟨.computed, .const false, .const true, .const false⟩
  | .xor => ⟨.computed, .const false, .const false, .const false⟩
  | .or => ⟨.computed, .const false, .const false, .const false⟩
  | .cp => ⟨.computed, .const true, .computed, .computed⟩

/-- The flag column of an extended rotate or shift (R255 to R269). -/
def ShiftOp.marks : ShiftOp → FlagMarks
  | .swap => ⟨.computed, .const false, .const false, .const false⟩
  | .rlc | .rrc | .rl | .rr | .sla | .sra | .srl =>
    ⟨.computed, .const false, .const false, .computed⟩

/-- The flag column of a form. -/
def Form.marks : Form → FlagMarks
  | .pop .af => ⟨.computed, .computed, .computed, .computed⟩
  | .pop .bc | .pop .de | .pop .hl => ⟨.keep, .keep, .keep, .keep⟩
  | .aluR op _ => op.marks
  | .aluAtHl op => op.marks
  | .aluN op _ => op.marks
  | .incR _ => ⟨.computed, .const false, .computed, .keep⟩
  | .incAtHl => ⟨.computed, .const false, .computed, .keep⟩
  | .decR _ => ⟨.computed, .const true, .computed, .keep⟩
  | .decAtHl => ⟨.computed, .const true, .computed, .keep⟩
  | .daa => ⟨.computed, .keep, .const false, .computed⟩
  | .cpl => ⟨.keep, .const true, .const true, .keep⟩
  | .scf => ⟨.keep, .const false, .const false, .const true⟩
  | .ccf => ⟨.keep, .const false, .const false, .computed⟩
  | .addHlRr _ => ⟨.keep, .const false, .computed, .computed⟩
  | .addSpE _ => ⟨.const false, .const false, .computed, .computed⟩
  | .ldHlSpE _ => ⟨.const false, .const false, .computed, .computed⟩
  | .rlca => ⟨.const false, .const false, .const false, .computed⟩
  | .rrca => ⟨.const false, .const false, .const false, .computed⟩
  | .rla => ⟨.const false, .const false, .const false, .computed⟩
  | .rra => ⟨.const false, .const false, .const false, .computed⟩
  | .shiftR op _ => op.marks
  | .shiftAtHl op => op.marks
  | .bitR _ _ => ⟨.computed, .const false, .const true, .keep⟩
  | .bitAtHl _ => ⟨.computed, .const false, .const true, .keep⟩
  | .ldRR .. | .ldRN .. | .ldRAtHl .. | .ldAtHlR .. | .ldAtHlN .. | .ldAAtBc | .ldAAtDe
  | .ldAtBcA | .ldAtDeA | .ldAAtNn .. | .ldAtNnA .. | .ldhAAtC | .ldhAtCA | .ldhAAtN ..
  | .ldhAtNA .. | .ldAtHlIncA | .ldAtHlDecA | .ldAAtHlInc | .ldAAtHlDec | .ldRrNn ..
  | .ldAtNnSp .. | .ldSpHl | .push .. | .incRr .. | .decRr .. | .resR .. | .resAtHl ..
  | .setR .. | .setAtHl .. | .jpNn .. | .jpCcNn .. | .jpHl | .jrE .. | .jrCcE .. | .callNn ..
  | .callCcNn .. | .ret | .retCc .. | .reti | .rst .. | .nop | .halt | .stop .. | .di | .ei =>
    ⟨.keep, .keep, .keep, .keep⟩

end Sys2Proof
end

