-- ==== Sys2Proof/Machine/HostOps.lean ====
section
/-! DEFINITION. The host's operations between steps (R4, R90): the image loads, the boot-overlay switch, memory accesses and register writes. `read` and `read_word` are `State.read` and `State.readWord`; a register read is a field of the state (D44). Construction is `State.reset` (R370). -/

namespace Sys2Proof.Machine

/-- What a load returns to its caller (R84, R343). -/
inductive LoadResult where
  | loaded
  | imageTooLarge
  deriving DecidableEq, Repr

/-- Bytes stored in cells k, k + 1, and so on. -/
def Memory.pokeRun : Memory → Nat → List Byte → Memory
  | m, _, [] => m
  | m, k, v :: vs => Memory.pokeRun (m.poke k v) (k + 1) vs

/-- A load into a region: the first bytes, as many as the region holds; the other bytes keep their values (R82 to R84). -/
def State.loadRegion (r : Region) (bytes : List Byte) (s : State) : State × LoadResult :=
  ({ s with mem := s.mem.pokeRun r.base (bytes.take r.size) },
   if bytes.length > r.size then .imageTooLarge else .loaded)

/-- `load_boot_image(bytes)` (R82): the load ignores BOOT. -/
def State.loadBootImage (bytes : List Byte) (s : State) : State × LoadResult :=
  s.loadRegion .bootimg bytes

/-- `load_cartridge_image(bytes)` (R83). -/
def State.loadCartridgeImage (bytes : List Byte) (s : State) : State × LoadResult :=
  s.loadRegion .cart bytes

/-- `set_boot_overlay(v)` (R85): stores whatever value it is given (D22). -/
def State.setBootOverlay (v : Bool) (s : State) : State := { s with boot := v }

/-- One operation of the host that changes the state (R90, D44). -/
inductive HostOp where
  | write (a : Word) (v : Byte)
  | writeWord (a v : Word)
  | loadBootImage (bytes : List Byte)
  | loadCartridgeImage (bytes : List Byte)
  | setBootOverlay (v : Bool)
  | setR8 (r : Reg8) (v : Byte)
  | setFlags (z n h c : Bool)
  | setPc (v : Word)
  | setSp (v : Word)
  | setLatches (ime imePending halted stopped : Bool)
  deriving DecidableEq, Repr

/-- The state after a host operation. -/
def HostOp.apply : HostOp → State → State
  | .write a v, s => s.write a v
  | .writeWord a v, s => s.writeWord a v
  | .loadBootImage bytes, s => (s.loadBootImage bytes).1
  | .loadCartridgeImage bytes, s => (s.loadCartridgeImage bytes).1
  | .setBootOverlay v, s => s.setBootOverlay v
  | .setR8 r v, s => s.setR8 r v
  | .setFlags z n h c, s => s.setFlags z n h c
  | .setPc v, s => { s with pc := v }
  | .setSp v, s => { s with sp := v }
  | .setLatches ime p hlt stp, s =>
    { s with ime := ime, imePending := p, halted := hlt, stopped := stp }

end Sys2Proof.Machine
end

