-- ==== Sys2Proof/Safety.lean ====
section
/-! DEFINITION. The terms that claims about the machine use: the invariant of every state and what a safe step is. The footprints of the forms are in Machine/Footprint.lean. -/

namespace Sys2Proof.Machine

/-! ### The invariant -/

/-- The storage is in canonical form and holds bytes of the nine arrays only: "Nothing else holds a byte" (R35). -/
abbrev State.wf (s : State) : Prop := s.mem.wf ∧ ∀ x ∈ s.mem, isCell x.1 = true

/-- HALTED and STOPPED are never both set: a stopped engine executes no HALT and a halted one no STOP (R322, R324). -/
abbrev State.oneWait (s : State) : Prop := ¬(s.halted = true ∧ s.stopped = true)

/-- What every step keeps. -/
abbrev State.Inv (s : State) : Prop := s.wf ∧ s.oneWait

/-! ### Safe steps -/

/-- A step is safe when it answers a next state. -/
def SafeStep (cfg : Config) (s : State) : Prop := ∃ t, stepWith cfg s = .next t

/-- The engine fetches in this step: it is neither stopped nor halted and takes no interrupt (R100). -/
abbrev State.running (cfg : Config) (s : State) : Prop :=
  s.stopped = false ∧ s.halted = false ∧ s.takesInterrupt cfg = false

/-- A state with the interrupt-enable latches forgotten. -/
def State.forgetIme (s : State) : State := { s with ime := false, imePending := false }

/-- An answer with the interrupt-enable latches of its state forgotten. -/
def forgetImeResult : Result → Result
  | .next s => .next s.forgetIme
  | .fault r => .fault r
  | .refused r => .refused r

end Sys2Proof.Machine
end

