-- ==== Sys2Proof/WellFormed.lean ====
section
/-! DEFINITION. What a well-formed configuration and a well-formed instruction are. Every term of Instr carries operands of exactly its fields' widths, so an instruction can be ill-formed only for a build that has no descriptor for it (R119). -/

namespace Sys2Proof

/-- Every byte, once. -/
def allBytes : List Byte := (List.range 256).map (BitVec.ofNat 8)

/-- "Each set must be a subset of its default" (R119). The default of the extended set is all 256 bytes (R118), so only the primary set can break it. -/
def Config.wf (cfg : Config) : Bool :=
  allBytes.all fun b => !cfg.presentPrimary b || defaultPresentPrimary b

/-- Whether the descriptor that begins with these bytes is present (R102, R103). -/
def Config.present (cfg : Config) : List Byte → Bool
  | [] => false
  | [b0] => cfg.presentPrimary b0
  | b0 :: b1 :: _ => if b0 = prefixByte then cfg.presentExt b1 else cfg.presentPrimary b0

/-- An instruction is well-formed for a build that has its descriptor (R119). -/
def Instr.wf (cfg : Config) (i : Instr) : Bool := cfg.present (encode i)

end Sys2Proof
end

