-- ==== Sys2Proof/Certificates/Slice0/Obligations.lean ====
section
/-! DEFINITION. The statements for the provers. A statement about a row of the opcode table fixes the row by its form (Instr.form) and says what exec answers, the bytes that encode it and the cycles it costs. The terms that several statements share are in the namespace Claims. -/

namespace Sys2Proof.Claims

open Sys2Proof.Machine

/-- The encoding and the cycle count of a row: the lines "Encoding", "Length" and "cycles" of its rule. -/
def coded (i : Instr) (s : State) (bytes : List Byte) (cycles : Nat) : Prop :=
  encode i = bytes ∧ i.form.cycles s = cycles

/-- A 16-bit immediate in the instruction stream, low byte first (R106). -/
def immediate (nn : Word) : List Byte :=
  [BitVec.ofNat 8 (nn.toNat % 256), BitVec.ofNat 8 (nn.toNat / 256)]

/-- `{hi8, lo8}` = hi8 * 256 + lo8 (R7). -/
def pairOf (hi lo : Byte) : Word := BitVec.ofNat 16 (hi.toNat * 256 + lo.toNat)

/-- The sum of PC after a two-byte branch and a displacement, on unbounded integers, then u16 (R293). -/
def relative (s : State) (e : Byte) : Word := BitVec.ofInt 16 (s.pc.toNat + 2 + e.toInt)

/-- What an addition of `v` and a carry-in to A leaves, with PC moved by `len` (R190, R191). -/
def added (v : Byte) (cin : Nat) (len : Word) (s : State) : State :=
  { s with
    a := BitVec.ofNat 8 ((s.a.toNat + v.toNat + cin) % 256)
    zf := decide ((s.a.toNat + v.toNat + cin) % 256 = 0)
    nf := false
    hf := decide (s.a.toNat % 16 + v.toNat % 16 + cin > 15)
    cf := decide (s.a.toNat + v.toNat + cin > 255)
    pc := s.pc + len }

/-- What a comparison of A with `v` leaves: the flags of a subtraction, A as it was (R190, R212). -/
def compared (v : Byte) (cin : Nat) (len : Word) (s : State) : State :=
  { s with
    zf := decide ((s.a.toNat + 512 - v.toNat - cin) % 256 = 0)
    nf := true
    hf := decide (s.a.toNat % 16 < v.toNat % 16 + cin)
    cf := decide (s.a.toNat < v.toNat + cin)
    pc := s.pc + len }

/-- What a subtraction of `v` and a borrow-in from A leaves (R190, R197). -/
def subtracted (v : Byte) (cin : Nat) (len : Word) (s : State) : State :=
  { compared v cin len s with a := BitVec.ofNat 8 ((s.a.toNat + 512 - v.toNat - cin) % 256) }

/-- What a logical operation with result `res` leaves (R203, R206, R209). -/
def logical (res : Byte) (h : Bool) (len : Word) (s : State) : State :=
  { s with a := res, zf := decide (res.toNat = 0), nf := false, hf := h, cf := false, pc := s.pc + len }

/-- The result and the carry of a rotate or shift of `v`, in unsigned arithmetic (R255 to R270). -/
def shifted (op : ShiftOp) (v : Nat) (cf : Bool) : Nat × Bool :=
  match op with
  | .rlc => (2 * v % 256 + v / 128, decide (v / 128 = 1))
  | .rrc => (v / 2 + 128 * (v % 2), decide (v % 2 = 1))
  | .rl => (2 * v % 256 + cf.toNat, decide (v / 128 = 1))
  | .rr => (v / 2 + 128 * cf.toNat, decide (v % 2 = 1))
  | .sla => (2 * v % 256, decide (v / 128 = 1))
  | .sra => (v / 2 + 128 * (v / 128), decide (v % 2 = 1))
  | .swap => (v % 16 * 16 + v / 16, false)
  | .srl => (v / 2, decide (v % 2 = 1))

/-- The byte `v` with bit k made 0, in unsigned arithmetic. -/
def bitCleared (v : Byte) (k : Nat) : Byte := BitVec.ofNat 8 (v.toNat - v.toNat / 2 ^ k % 2 * 2 ^ k)

/-- The byte `v` with bit k made 1, in unsigned arithmetic. -/
def bitRaised (v : Byte) (k : Nat) : Byte :=
  BitVec.ofNat 8 (v.toNat + (1 - v.toNat / 2 ^ k % 2) * 2 ^ k)

/-- The high byte of a stack pair. -/
def highHalf (s : State) : RegStk → Byte
  | .bc => s.b
  | .de => s.d
  | .hl => s.h
  | .af => s.a

/-- The low byte of a stack pair; of AF it is F (R22). -/
def lowHalf (s : State) : RegStk → Byte
  | .bc => s.c
  | .de => s.e
  | .hl => s.l
  | .af => s.f

/-- The two bytes of `v` stored below SP, the high byte first, and SP moved below them (R170). -/
def pushed (v : Word) (s : State) : State :=
  { (s.write (s.sp - 1) (BitVec.ofNat 8 (v.toNat / 256))).write (s.sp - 2)
      (BitVec.ofNat 8 (v.toNat % 256)) with sp := s.sp - 2 }

/-- SP and PC after a return (R297). -/
def returned (s : State) : State :=
  { s with pc := pairOf (s.read (s.sp + 1)) (s.read s.sp), sp := s.sp + 2 }

/-- The EI delay: what a step adds after the routine of `i` ran from `s` to `t` (R327). -/
def delayed (s : State) (i : Instr) (t : State) : State :=
  if s.imePending = true ∧ i ≠ .di then { t with ime := true, imePending := false } else t

/-- The three bytes from PC on. -/
def bytesAtPc (s : State) : List Byte := [s.read s.pc, s.read (s.pc + 1), s.read (s.pc + 2)]

/-- A step that fetches, decodes and runs the instruction `i` (R100). -/
def stepRuns (cfg : Config) (s : State) (i : Instr) : Prop :=
  ∃ t, exec i s = .next t ∧ stepWith cfg s = .next (delayed s i t)

/-- The group of an extended instruction, which is the field x of its opcode (R113); 4 for an instruction of the primary table. -/
def extGroup : Form → Nat
  | .shiftR _ _ => 0
  | .shiftAtHl _ => 0
  | .bitR _ _ => 1
  | .bitAtHl _ => 1
  | .resR _ _ => 2
  | .resAtHl _ => 2
  | .setR _ _ => 3
  | .setAtHl _ => 3
  | .ldRR .. | .ldRN .. | .ldRAtHl .. | .ldAtHlR .. | .ldAtHlN .. | .ldAAtBc | .ldAAtDe
  | .ldAtBcA | .ldAtDeA | .ldAAtNn .. | .ldAtNnA .. | .ldhAAtC | .ldhAtCA | .ldhAAtN ..
  | .ldhAtNA .. | .ldAtHlIncA | .ldAtHlDecA | .ldAAtHlInc | .ldAAtHlDec | .ldRrNn ..
  | .ldAtNnSp .. | .ldSpHl | .push .. | .pop .. | .aluR .. | .aluAtHl .. | .aluN .. | .incR ..
  | .incAtHl | .decR .. | .decAtHl | .daa | .cpl | .scf | .ccf | .addHlRr .. | .incRr ..
  | .decRr .. | .addSpE .. | .ldHlSpE .. | .rlca | .rrca | .rla | .rra | .jpNn .. | .jpCcNn ..
  | .jpHl | .jrE .. | .jrCcE .. | .callNn .. | .callCcNn .. | .ret | .retCc .. | .reti
  | .rst .. | .nop | .halt | .stop .. | .di | .ei => 4

/-- The target of a form that branches (R290 to R300). -/
def target (s : State) : Form → Word
  | .jpNn nn => nn
  | .jpCcNn _ nn => nn
  | .jpHl => s.hl
  | .jrE e => relative s e
  | .jrCcE _ e => relative s e
  | .callNn nn => nn
  | .callCcNn _ nn => nn
  | .ret => pairOf (s.read (s.sp + 1)) (s.read s.sp)
  | .retCc _ => pairOf (s.read (s.sp + 1)) (s.read s.sp)
  | .reti => pairOf (s.read (s.sp + 1)) (s.read s.sp)
  | .rst t => BitVec.ofNat 16 (8 * t.val)
  | .ldRR .. | .ldRN .. | .ldRAtHl .. | .ldAtHlR .. | .ldAtHlN .. | .ldAAtBc | .ldAAtDe
  | .ldAtBcA | .ldAtDeA | .ldAAtNn .. | .ldAtNnA .. | .ldhAAtC | .ldhAtCA | .ldhAAtN ..
  | .ldhAtNA .. | .ldAtHlIncA | .ldAtHlDecA | .ldAAtHlInc | .ldAAtHlDec | .ldRrNn ..
  | .ldAtNnSp .. | .ldSpHl | .push .. | .pop .. | .aluR .. | .aluAtHl .. | .aluN .. | .incR ..
  | .incAtHl | .decR .. | .decAtHl | .daa | .cpl | .scf | .ccf | .addHlRr .. | .incRr ..
  | .decRr .. | .addSpE .. | .ldHlSpE .. | .rlca | .rrca | .rla | .rra | .shiftR ..
  | .shiftAtHl .. | .bitR .. | .bitAtHl .. | .resR .. | .resAtHl .. | .setR .. | .setAtHl ..
  | .nop | .halt | .stop .. | .di | .ei => s.pc

/-- The condition a conditional branch tests (R29, R111): that of JP cc, JR cc, CALL cc and RET cc. Every other form has none. -/
def conditionOf : Form → Option Cond
  | .jpCcNn cc _ => some cc
  | .jrCcE cc _ => some cc
  | .callCcNn cc _ => some cc
  | .retCc cc => some cc
  | .jpNn .. | .jpHl | .jrE .. | .callNn .. | .ret | .reti | .rst ..
  | .ldRR .. | .ldRN .. | .ldRAtHl .. | .ldAtHlR .. | .ldAtHlN .. | .ldAAtBc | .ldAAtDe
  | .ldAtBcA | .ldAtDeA | .ldAAtNn .. | .ldAtNnA .. | .ldhAAtC | .ldhAtCA | .ldhAAtN ..
  | .ldhAtNA .. | .ldAtHlIncA | .ldAtHlDecA | .ldAAtHlInc | .ldAAtHlDec | .ldRrNn ..
  | .ldAtNnSp .. | .ldSpHl | .push .. | .pop .. | .aluR .. | .aluAtHl .. | .aluN .. | .incR ..
  | .incAtHl | .decR .. | .decAtHl | .daa | .cpl | .scf | .ccf | .addHlRr .. | .incRr ..
  | .decRr .. | .addSpE .. | .ldHlSpE .. | .rlca | .rrca | .rla | .rra | .shiftR ..
  | .shiftAtHl .. | .bitR .. | .bitAtHl .. | .resR .. | .resAtHl .. | .setR .. | .setAtHl ..
  | .nop | .halt | .stop .. | .di | .ei => none

/-- The eleven primary opcodes that the default build does not have (R118). -/
def absentEleven : List Byte :=
  [0xD3, 0xDB, 0xDD, 0xE3, 0xE4, 0xEB, 0xEC, 0xED, 0xF4, 0xFC, 0xFD]

/-- The unusable gap (R69). -/
def inGap (a : Word) : Prop := 0xFEA0 ≤ a.toNat ∧ a.toNat ≤ 0xFEFF

/-- Two addresses that reach one byte (R87). -/
def sameByte (boot : Bool) (a b : Word) : Prop :=
  ∃ k, cellOf a boot = some k ∧ cellOf b boot = some k

end Sys2Proof.Claims

open Sys2Proof Sys2Proof.Machine

/-! ### Encoding, decoding and dispatch -/

/-- Decoding the bytes of a well-formed instruction gives it back, whatever bytes follow (R106, R107). -/
def Obligations.DecodeOfEncode : Prop :=
  ∀ (cfg : Config) (i : Instr) (b0 b1 b2 : Byte), i.wf cfg = true → encode i <+: [b0, b1, b2] →
    decode cfg b0 b1 b2 = .instr i

/-- What the decoder accepts is exactly the encoding of the instruction it answers, and the build has that instruction. -/
def Obligations.EncodeOfDecode : Prop :=
  ∀ (cfg : Config) (i : Instr) (b0 b1 b2 : Byte), decode cfg b0 b1 b2 = .instr i →
    encode i <+: [b0, b1, b2] ∧ i.wf cfg = true

/-- Words written out from the Encoding lines of the rules decode to the instructions the lines name. -/
def Obligations.WrittenWordsDecode : Prop :=
  decode standardConfig 0b01000001 0 0 = .instr .ld_B_C ∧
  decode standardConfig 0b00110110 0x42 0 = .instr (.ld_atHL_n 0x42) ∧
  decode standardConfig 0b00110001 0xFE 0xFF = .instr (.ld_SP_nn 0xFFFE) ∧
  decode standardConfig 0b10011100 0 0 = .instr .sbc_A_H ∧
  decode standardConfig 0b00111001 0 0 = .instr .add_HL_SP ∧
  decode standardConfig 0b11001011 0b01100110 0 = .instr .bit_4_atHL ∧
  decode standardConfig 0b11010100 0x00 0x40 = .instr (.call_NC_nn 0x4000) ∧
  decode standardConfig 0b00010000 0xCB 0 = .instr (.stop 0xCB)

/-- R118: the default tables, and the fault of each of the eleven absent bytes. -/
def Obligations.DefaultTables : Prop :=
  standardConfig.presentPrimary = defaultPresentPrimary ∧
  standardConfig.presentExt = defaultPresentExt ∧
  (∀ b, defaultPresentPrimary b = true ↔ b ≠ 0xCB ∧ b ∉ Claims.absentEleven) ∧
  (allBytes.filter defaultPresentPrimary).length = 244 ∧
  (∀ b, defaultPresentExt b = true) ∧
  (∀ b1 b2 : Byte, ∃ i, decode standardConfig 0xCB b1 b2 = .instr i ∧
    Claims.extGroup i.form = b1.toNat / 64) ∧
  (∀ s : State, s.running standardConfig → s.read s.pc ∈ Claims.absentEleven →
    step s = .fault (.unimplementedOpcode (s.read s.pc) none))

/-- R102: a first byte other than the prefix runs its row of the primary table if the build has it, and is the fault that carries it if not. A row is known by its bytes. -/
def Obligations.PrimaryDispatch : Prop :=
  ∀ (cfg : Config) (s : State), cfg.wf = true → s.running cfg → s.read s.pc ≠ 0xCB →
    (cfg.presentPrimary (s.read s.pc) = true →
      ∃ i, encode i <+: Claims.bytesAtPc s ∧ Claims.stepRuns cfg s i) ∧
    (cfg.presentPrimary (s.read s.pc) = false →
      stepWith cfg s = .fault (.unimplementedOpcode (s.read s.pc) none))

/-- R103: after the prefix, the second byte selects the row of the extended table, or is the fault that carries both bytes; under the default tables none faults. -/
def Obligations.ExtendedDispatch : Prop :=
  (∀ (cfg : Config) (s : State), s.running cfg → s.read s.pc = 0xCB →
    (cfg.presentExt (s.read (s.pc + 1)) = true →
      ∃ i, encode i = [0xCB, s.read (s.pc + 1)] ∧ Claims.stepRuns cfg s i) ∧
    (cfg.presentExt (s.read (s.pc + 1)) = false →
      stepWith cfg s = .fault (.unimplementedOpcode 0xCB (some (s.read (s.pc + 1)))))) ∧
  (∀ s : State, s.running standardConfig → s.read s.pc = 0xCB → SafeStep standardConfig s)

/-- A step whose bytes at PC decode to an instruction is exec of that instruction followed by the EI delay (R100, R327). That `step`, the host's step, is the step under the default parameters is the model's own choice (log entries 1 and 2, DESIGN CHOICE), no rule of the spec. -/
def Obligations.StepRunsDecodedInstruction : Prop :=
  (∀ (cfg : Config) (s : State) (i : Instr), s.running cfg →
    decode cfg (s.read s.pc) (s.read (s.pc + 1)) (s.read (s.pc + 2)) = .instr i →
    Claims.stepRuns cfg s i ∧ stepCycles cfg s = i.form.cycles s) ∧
  (∀ s : State, step s = stepWith standardConfig s)

/-! ### The step around an instruction -/

/-- R324: a stopped engine stays as it is, for every number of steps; only the host's write of the latch ends it. -/
def Obligations.StoppedStep : Prop :=
  ∀ s : State, s.stopped = true →
    (∀ cfg, stepWith cfg s = .next s ∧ stepCycles cfg s = 4) ∧
    (∀ n, core.run n s = .next s) ∧
    (∀ op : HostOp, (op.apply s).stopped = false →
      ∃ ime p h, op = .setLatches ime p h false)

/-- The halted step: HALTED is cleared exactly when a request is pending, whatever IME is, nothing else changes, and the next step starts at the same PC (R322). -/
def Obligations.HaltedStep : Prop :=
  ∀ (cfg : Config) (s : State), s.stopped = false → s.halted = true →
    ¬(cfg.interruptDispatch = .dmg ∧ s.ime = true ∧ s.pending ≠ 0) →
    stepWith cfg s = .next { s with halted := decide (s.pending = 0) } ∧ stepCycles cfg s = 4

/-- R349 and R348: the entry of the lowest pending request under `dmg`. Bit k of IF is cleared first, then PC is pushed. -/
def Obligations.InterruptEntry : Prop :=
  ∀ (cfg : Config) (s : State) (k : Fin 5), cfg.interruptDispatch = .dmg → s.stopped = false →
    s.ime = true → s.pending.getLsbD k = true → (∀ j < k.val, s.pending.getLsbD j = false) →
    stepWith cfg s = .next
      { Claims.pushed s.pc (s.setIf (Claims.bitCleared s.ifByte k)) with
        ime := false, imePending := false, halted := false,
        pc := BitVec.ofNat 16 (0x40 + 8 * k.val) } ∧
    stepCycles cfg s = 20

/-- pending() is IE & IF & 0x1F, bit by bit, and the two bytes are those at 0xFFFF and 0xFF0F (R36, R37, R347). -/
def Obligations.PendingBits : Prop :=
  ∀ s : State, s.ieByte = s.read 0xFFFF ∧ s.ifByte = s.read 0xFF0F ∧
    ∀ k < 8, s.pending.getLsbD k =
      (decide (k < 5) && (s.read 0xFFFF).getLsbD k && (s.read 0xFF0F).getLsbD k)

/-- "With the default none, IME is written but never read, so a program cannot observe it" (R30): two states that differ in the two interrupt-enable latches step alike. -/
def Obligations.ImeUnobservableUnderNone : Prop :=
  ∀ (cfg : Config) (s s' : State), cfg.interruptDispatch = .none →
    s.forgetIme = s'.forgetIme →
    forgetImeResult (stepWith cfg s) = forgetImeResult (stepWith cfg s') ∧
    stepCycles cfg s = stepCycles cfg s'

/-- Every step keeps the invariant: the storage is canonical and holds bytes of the nine arrays only (R35), and the two wait latches are never both set (R322, R324). -/
def Obligations.StepKeepsInvariant : Prop :=
  (∀ s t : State, s.Inv → step s = .next t → t.Inv) ∧
  (∀ (cfg : Config) (s t : State), s.Inv → stepWith cfg s = .next t → t.Inv)

/-- The state after construction meets the invariant. -/
def Obligations.ResetInvariant : Prop := State.reset.Inv

/-- Every operation of the host keeps the storage canonical and inside the nine arrays (R35, R90). -/
def Obligations.HostOpsKeepStorage : Prop :=
  ∀ (op : HostOp) (s : State), s.wf → (op.apply s).wf

/-- R86: no access and no step changes BOOT; the byte at 0xFF50 is plain storage; among the host's operations only the overlay switch writes BOOT. -/
def Obligations.AccessKeepsBoot : Prop :=
  (∀ (s : State) (a : Word) (v : Byte), (s.write a v).boot = s.boot) ∧
  (∀ (s : State) (v : Byte),
    s.write 0xFF50 v = { s with mem := s.mem.poke (Region.io.cell 0x50) v }) ∧
  (∀ (cfg : Config) (s t : State), stepWith cfg s = .next t → t.boot = s.boot) ∧
  (∀ (op : HostOp) (s : State), (op.apply s).boot ≠ s.boot → ∃ v, op = .setBootOverlay v)

/-- Every step answers a next state or the fault of an absent opcode: a step is safe exactly when the engine waits, takes an interrupt, or finds an opcode of its tables at PC (R100, R124, R344). -/
def Obligations.StepCompletesUnlessAbsent : Prop :=
  (∀ (cfg : Config) (s : State), SafeStep cfg s ∨
    ∃ b x, stepWith cfg s = .fault (.unimplementedOpcode b x) ∧ stepCycles cfg s = 0) ∧
  (∀ s : State, SafeStep standardConfig s ↔
    s.stopped = true ∨ s.halted = true ∨ s.read s.pc ∉ Claims.absentEleven)

/-- How the two wait states are entered and left (R356, R321 to R324). -/
def Obligations.WaitStates : Prop :=
  ∀ (cfg : Config) (s t : State), stepWith cfg s = .next t →
    (s.stopped = true → t.stopped = true) ∧
    (s.stopped = false → t.stopped = true → ∃ x, s.fetch cfg = .instr (.stop x)) ∧
    (s.halted = false → t.halted = true → s.fetch cfg = .instr .halt ∧ s.pending = 0) ∧
    (s.stopped = false → s.halted = true → (t.halted = false ↔ s.pending ≠ 0))

/-- The state after construction. The spec marks these values as its own decision D9 and BOOT as derived (R40); log entry 4. -/
def Obligations.ResetState : Prop :=
  (∀ r, State.reset.r8 r = 0) ∧ State.reset.f = 0 ∧ State.reset.pc = 0 ∧ State.reset.sp = 0 ∧
  State.reset.ime = false ∧ State.reset.imePending = false ∧
  State.reset.halted = false ∧ State.reset.stopped = false ∧ State.reset.boot = true ∧
  (∀ r k, State.reset.byteOf r k = 0)

/-! ### The address space -/

/-- R61, R62 and R63: the address decoder, row by row; an index it answers lies inside its array. -/
def Obligations.AddressMap : Prop :=
  (∀ (a : Word) (boot : Bool),
    (a.toNat ≤ 0x3FFF → resolve a true = some (.bootimg, a.toNat) ∧
      resolve a false = some (.cart, a.toNat)) ∧
    (0x4000 ≤ a.toNat → resolve a true = resolve a false) ∧
    (0x4000 ≤ a.toNat ∧ a.toNat ≤ 0x7FFF → resolve a boot = some (.cart, a.toNat)) ∧
    (0x8000 ≤ a.toNat ∧ a.toNat ≤ 0x9FFF → resolve a boot = some (.vram, a.toNat - 0x8000)) ∧
    (0xA000 ≤ a.toNat ∧ a.toNat ≤ 0xBFFF → resolve a boot = some (.eram, a.toNat - 0xA000)) ∧
    (0xC000 ≤ a.toNat ∧ a.toNat ≤ 0xDFFF → resolve a boot = some (.wram, a.toNat - 0xC000)) ∧
    (0xE000 ≤ a.toNat ∧ a.toNat ≤ 0xFDFF → resolve a boot = some (.wram, a.toNat - 0xE000)) ∧
    (0xFE00 ≤ a.toNat ∧ a.toNat ≤ 0xFE9F → resolve a boot = some (.oam, a.toNat - 0xFE00)) ∧
    (Claims.inGap a → resolve a boot = none) ∧
    (0xFF00 ≤ a.toNat ∧ a.toNat ≤ 0xFF7F → resolve a boot = some (.io, a.toNat - 0xFF00)) ∧
    (0xFF80 ≤ a.toNat ∧ a.toNat ≤ 0xFFFE → resolve a boot = some (.hram, a.toNat - 0xFF80)) ∧
    (a.toNat = 0xFFFF → resolve a boot = some (.ie, 0))) ∧
  (∀ (a : Word) (boot : Bool) (r : Region) (k : Nat),
    resolve a boot = some (r, k) → k < r.size)

/-- R87: the addresses of an Echo pair share a byte, and no other two addresses do; distinct cells of the arrays are distinct bytes of the storage. -/
def Obligations.OnlyEchoPairsShareAByte : Prop :=
  (∀ (a : Word) (boot : Bool), 0xE000 ≤ a.toNat → a.toNat ≤ 0xFDFF →
    resolve a boot = resolve (a - 0x2000) boot ∧ Claims.sameByte boot a (a - 0x2000)) ∧
  (∀ a : Word, a.toNat ≤ 0x3FFF → resolve a false = some (.cart, a.toNat)) ∧
  (∀ (a b : Word) (boot : Bool), Claims.sameByte boot a b → a ≠ b →
    (0xE000 ≤ a.toNat ∧ a.toNat ≤ 0xFDFF ∧ b = a - 0x2000) ∨
    (0xE000 ≤ b.toNat ∧ b.toNat ≤ 0xFDFF ∧ a = b - 0x2000)) ∧
  (∀ (r r' : Region) (j j' : Nat), j < r.size → j' < r'.size → r.cell j = r'.cell j' →
    r = r' ∧ j = j')

/-- R69: a read of the gap is 0xFF and a write to it changes nothing. -/
def Obligations.GapIsOpenBus : Prop :=
  ∀ (s : State) (a : Word) (v : Byte), Claims.inGap a → s.read a = 0xFF ∧ s.write a v = s

/-- A write outside the gap is read back at every address of its byte, changes no other byte of the storage and nothing outside it, and repeating it changes nothing more (R73, R74, R78). -/
def Obligations.ReadAfterWrite : Prop :=
  ∀ (s : State) (a : Word) (v : Byte), s.mem.wf →
    (∀ b, Claims.sameByte s.boot b a → (s.write a v).read b = v) ∧
    (∀ b, ¬ Claims.sameByte s.boot b a → (s.write a v).read b = s.read b) ∧
    (∀ k, cellOf a s.boot ≠ some k → (s.write a v).mem.peek k = s.mem.peek k) ∧
    { s.write a v with mem := s.mem } = s ∧
    (s.write a v).write a v = s.write a v

/-- Echo RAM aliases 0xC000 to 0xDDFF in both directions, and no Echo write reaches 0xDE00 to 0xDFFF (R67; the last clause is the rule's own derivation). -/
def Obligations.EchoAliases : Prop :=
  ∀ (s : State) (e : Word) (v : Byte), s.mem.wf → 0xE000 ≤ e.toNat → e.toNat ≤ 0xFDFF →
    (s.write e v).read (e - 0x2000) = v ∧ (s.write (e - 0x2000) v).read e = v ∧
    s.read e = s.read (e - 0x2000) ∧
    (∀ a : Word, 0xDE00 ≤ a.toNat → a.toNat ≤ 0xDFFF → (s.write e v).read a = s.read a)

/-- A write below 0x4000 while the overlay is up goes to the boot image, and the cartridge image keeps its bytes; with the overlay down it is the other way round (R62, R74, R85). -/
def Obligations.OverlayWritesReachOneImage : Prop :=
  ∀ (s : State) (up : Bool) (a b : Word) (v : Byte), s.mem.wf →
    a.toNat ≤ 0x3FFF → b.toNat ≤ 0x3FFF →
    (((s.setBootOverlay up).write a v).setBootOverlay (!up)).read b =
      (s.setBootOverlay (!up)).read b ∧
    (((s.setBootOverlay up).write a v).setBootOverlay up).read a = v

/-- R76 and R77: a word is little-endian, its second byte at u16(a + 1). -/
def Obligations.WordsAreLittleEndian : Prop :=
  ∀ (s : State) (a v : Word),
    s.readWord a = Claims.pairOf (s.read (a + 1)) (s.read a) ∧
    s.writeWord a v = (s.write a (BitVec.ofNat 8 (v.toNat % 256))).write (a + 1)
      (BitVec.ofNat 8 (v.toNat / 256)) ∧
    s.readWord 0xFFFF = Claims.pairOf (s.read 0) (s.read 0xFFFF)

/-- A pop after a push restores SP and gives the word back, unless a byte of it falls in the gap, which gives 0xFF (R170, R171, R178). -/
def Obligations.PopAfterPush : Prop :=
  ∀ (s : State) (v : Word), s.mem.wf →
    (s.push16 v).sp = s.sp - 2 ∧ (s.push16 v).pop16.2.sp = s.sp ∧
    (¬ Claims.inGap (s.sp - 1) → ¬ Claims.inGap (s.sp - 2) → (s.push16 v).pop16.1 = v) ∧
    (Claims.inGap (s.sp - 1) → (s.push16 v).pop16.1.toNat / 256 = 0xFF) ∧
    (Claims.inGap (s.sp - 2) → (s.push16 v).pop16.1.toNat % 256 = 0xFF)

/-- R82, R83 and R84: the image loads, byte by byte, and what they signal. -/
def Obligations.ImageLoads : Prop :=
  ∀ (s : State) (bytes : List Byte), s.mem.wf →
    (∀ k < 16384, (s.loadBootImage bytes).1.byteOf .bootimg k =
      bytes.getD k (s.byteOf .bootimg k)) ∧
    (∀ r k, r ≠ .bootimg → k < r.size → (s.loadBootImage bytes).1.byteOf r k = s.byteOf r k) ∧
    (∀ k < 32768, (s.loadCartridgeImage bytes).1.byteOf .cart k =
      bytes.getD k (s.byteOf .cart k)) ∧
    (∀ r k, r ≠ .cart → k < r.size →
      (s.loadCartridgeImage bytes).1.byteOf r k = s.byteOf r k) ∧
    { (s.loadBootImage bytes).1 with mem := s.mem } = s ∧
    { (s.loadCartridgeImage bytes).1 with mem := s.mem } = s ∧
    ((s.loadBootImage bytes).2 = .imageTooLarge ↔ 16384 < bytes.length) ∧
    ((s.loadCartridgeImage bytes).2 = .imageTooLarge ↔ 32768 < bytes.length)

/-! ### Registers and flags -/

/-- R22: F is the byte view of the four flags. -/
def Obligations.FlagByteView : Prop :=
  (∀ s : State, s.f.toNat =
    128 * s.zf.toNat + 64 * s.nf.toNat + 32 * s.hf.toNat + 16 * s.cf.toNat) ∧
  (∀ (s : State) (v : Byte), s.setF v =
    { s with
      zf := v.toNat.testBit 7, nf := v.toNat.testBit 6,
      hf := v.toNat.testBit 5, cf := v.toNat.testBit 4 }) ∧
  (∀ (s : State) (v : Byte), (s.setF v).f.toNat = v.toNat / 16 * 16)

/-- R23: a pair is its two halves, and a write of it writes them; and the field-indexed pairs `r16` of R109 are BC, DE, HL and SP. -/
def Obligations.RegisterPairs : Prop :=
  (∀ s : State, s.bc = Claims.pairOf s.b s.c ∧ s.de = Claims.pairOf s.d s.e ∧
    s.hl = Claims.pairOf s.h s.l ∧ s.af = Claims.pairOf s.a s.f) ∧
  (∀ (s : State) (v : Word),
    let hi : Byte := BitVec.ofNat 8 (v.toNat / 256)
    let lo : Byte := BitVec.ofNat 8 (v.toNat % 256)
    s.setBc v = { s with b := hi, c := lo } ∧ s.setDe v = { s with d := hi, e := lo } ∧
    s.setHl v = { s with h := hi, l := lo } ∧ s.setAf v = { s.setF lo with a := hi }) ∧
  (∀ s : State, s.r16 .bc = s.bc ∧ s.r16 .de = s.de ∧ s.r16 .hl = s.hl ∧ s.r16 .sp = s.sp) ∧
  (∀ (s : State) (v : Word),
    s.setR16 .bc v = s.setBc v ∧ s.setR16 .de v = s.setDe v ∧ s.setR16 .hl v = s.setHl v ∧
    s.setR16 .sp v = { s with sp := v })

/-! ### Loads and stores -/

/-- R140, R141 and R142: LD r,r', LD r,n and LD r,(HL). The first two clauses say which field of the state each register name of `r8` reads, and what a register write is: that register and nothing else (R21, R108). -/
def Obligations.LoadRegister : Prop :=
  (∀ s : State, s.r8 .b = s.b ∧ s.r8 .c = s.c ∧ s.r8 .d = s.d ∧ s.r8 .e = s.e ∧
    s.r8 .h = s.h ∧ s.r8 .l = s.l ∧ s.r8 .a = s.a) ∧
  (∀ (s : State) (r q : Reg8) (v : Byte),
    (s.setR8 r v).r8 q = (if q = r then v else s.r8 q) ∧
    { s.setR8 r v with
      a := s.a, b := s.b, c := s.c, d := s.d, e := s.e, h := s.h, l := s.l } = s) ∧
  (∀ (i : Instr) (dst src : Reg8) (s : State), i.form = .ldRR dst src →
    exec i s = .next { s.setR8 dst (s.r8 src) with pc := s.pc + 1 } ∧
    Claims.coded i s [0b01#2 ++ dst.code ++ src.code] 4) ∧
  (∀ (i : Instr) (dst : Reg8) (n : Byte) (s : State), i.form = .ldRN dst n →
    exec i s = .next { s.setR8 dst n with pc := s.pc + 2 } ∧
    Claims.coded i s [0b00#2 ++ dst.code ++ 0b110#3, n] 8) ∧
  (∀ (i : Instr) (dst : Reg8) (s : State), i.form = .ldRAtHl dst →
    exec i s = .next { s.setR8 dst (s.read (Claims.pairOf s.h s.l)) with pc := s.pc + 1 } ∧
    Claims.coded i s [0b01#2 ++ dst.code ++ 0b110#3] 8)

/-- R143 and R144: LD (HL),r and LD (HL),n. -/
def Obligations.StoreAtHl : Prop :=
  (∀ (i : Instr) (src : Reg8) (s : State), i.form = .ldAtHlR src →
    exec i s = .next { s.write (Claims.pairOf s.h s.l) (s.r8 src) with pc := s.pc + 1 } ∧
    Claims.coded i s [0b01110#5 ++ src.code] 8) ∧
  (∀ (i : Instr) (n : Byte) (s : State), i.form = .ldAtHlN n →
    exec i s = .next { s.write (Claims.pairOf s.h s.l) n with pc := s.pc + 2 } ∧
    Claims.coded i s [0b00110110, n] 12)

/-- R145, R146, R149, R151 and R153: A loaded from an address. -/
def Obligations.LoadAccumulator : Prop :=
  (∀ s : State, exec .ld_A_atBC s =
      .next { s with a := s.read (Claims.pairOf s.b s.c), pc := s.pc + 1 } ∧
    Claims.coded .ld_A_atBC s [0b00001010] 8) ∧
  (∀ s : State, exec .ld_A_atDE s =
      .next { s with a := s.read (Claims.pairOf s.d s.e), pc := s.pc + 1 } ∧
    Claims.coded .ld_A_atDE s [0b00011010] 8) ∧
  (∀ (nn : Word) (s : State), exec (.ld_A_atnn nn) s =
      .next { s with a := s.read nn, pc := s.pc + 3 } ∧
    Claims.coded (.ld_A_atnn nn) s (0b11111010 :: Claims.immediate nn) 16) ∧
  (∀ s : State, exec .ldh_A_atC s =
      .next { s with a := s.read (BitVec.ofNat 16 (0xFF00 + s.c.toNat)), pc := s.pc + 1 } ∧
    Claims.coded .ldh_A_atC s [0b11110010] 8) ∧
  (∀ (n : Byte) (s : State), exec (.ldh_A_atn n) s =
      .next { s with a := s.read (BitVec.ofNat 16 (0xFF00 + n.toNat)), pc := s.pc + 2 } ∧
    Claims.coded (.ldh_A_atn n) s [0b11110000, n] 12)

/-- R147, R148, R150, R152 and R154: A stored at an address. -/
def Obligations.StoreAccumulator : Prop :=
  (∀ s : State, exec .ld_atBC_A s =
      .next { s.write (Claims.pairOf s.b s.c) s.a with pc := s.pc + 1 } ∧
    Claims.coded .ld_atBC_A s [0b00000010] 8) ∧
  (∀ s : State, exec .ld_atDE_A s =
      .next { s.write (Claims.pairOf s.d s.e) s.a with pc := s.pc + 1 } ∧
    Claims.coded .ld_atDE_A s [0b00010010] 8) ∧
  (∀ (nn : Word) (s : State), exec (.ld_atnn_A nn) s =
      .next { s.write nn s.a with pc := s.pc + 3 } ∧
    Claims.coded (.ld_atnn_A nn) s (0b11101010 :: Claims.immediate nn) 16) ∧
  (∀ s : State, exec .ldh_atC_A s =
      .next { s.write (BitVec.ofNat 16 (0xFF00 + s.c.toNat)) s.a with pc := s.pc + 1 } ∧
    Claims.coded .ldh_atC_A s [0b11100010] 8) ∧
  (∀ (n : Byte) (s : State), exec (.ldh_atn_A n) s =
      .next { s.write (BitVec.ofNat 16 (0xFF00 + n.toNat)) s.a with pc := s.pc + 2 } ∧
    Claims.coded (.ldh_atn_A n) s [0b11100000, n] 12)

/-- R155, R156, R157 and R158: the accesses at HL that step HL afterwards. -/
def Obligations.AccessAndStepHl : Prop :=
  ∀ s : State,
    (exec .ld_atHLinc_A s =
      .next { (s.write s.hl s.a).setHl (BitVec.ofNat 16 (s.hl.toNat + 1)) with pc := s.pc + 1 } ∧
      Claims.coded .ld_atHLinc_A s [0b00100010] 8) ∧
    (exec .ld_atHLdec_A s =
      .next { (s.write s.hl s.a).setHl (BitVec.ofNat 16 (s.hl.toNat + 65535)) with
        pc := s.pc + 1 } ∧
      Claims.coded .ld_atHLdec_A s [0b00110010] 8) ∧
    (exec .ld_A_atHLinc s =
      .next { s.setHl (BitVec.ofNat 16 (s.hl.toNat + 1)) with
        a := s.read s.hl, pc := s.pc + 1 } ∧
      Claims.coded .ld_A_atHLinc s [0b00101010] 8) ∧
    (exec .ld_A_atHLdec s =
      .next { s.setHl (BitVec.ofNat 16 (s.hl.toNat + 65535)) with
        a := s.read s.hl, pc := s.pc + 1 } ∧
      Claims.coded .ld_A_atHLdec s [0b00111010] 8)

/-- R172, R173 and R174: LD rr,nn, LD (nn),SP and LD SP,HL. -/
def Obligations.Load16 : Prop :=
  (∀ (i : Instr) (p : Reg16) (nn : Word) (s : State), i.form = .ldRrNn p nn →
    exec i s = .next { s.setR16 p nn with pc := s.pc + 3 } ∧
    Claims.coded i s ((0b00#2 ++ p.code ++ 0b0001#4) :: Claims.immediate nn) 12) ∧
  (∀ (nn : Word) (s : State), exec (.ld_atnn_SP nn) s =
      .next { (s.write nn (BitVec.ofNat 8 (s.sp.toNat % 256))).write (nn + 1)
          (BitVec.ofNat 8 (s.sp.toNat / 256)) with pc := s.pc + 3 } ∧
    Claims.coded (.ld_atnn_SP nn) s (0b00001000 :: Claims.immediate nn) 20) ∧
  (∀ s : State, exec .ld_SP_HL s = .next { s with sp := Claims.pairOf s.h s.l, pc := s.pc + 1 } ∧
    Claims.coded .ld_SP_HL s [0b11111001] 8)

/-- R175, with R170: PUSH BC, DE, HL and AF. -/
def Obligations.PushStores : Prop :=
  ∀ (i : Instr) (q : RegStk) (s : State), i.form = .push q →
    exec i s = .next
      { (s.write (s.sp - 1) (Claims.highHalf s q)).write (s.sp - 2) (Claims.lowHalf s q) with
        sp := s.sp - 2, pc := s.pc + 1 } ∧
    Claims.coded i s [0b11#2 ++ q.code ++ 0b0101#4] 16

/-- R176 and R177, with R171: POP BC, DE, HL and AF. -/
def Obligations.PopLoads : Prop :=
  ∀ s : State,
    let lo := s.read s.sp
    let hi := s.read (s.sp + 1)
    (exec .pop_BC s = .next { s with b := hi, c := lo, sp := s.sp + 2, pc := s.pc + 1 } ∧
      Claims.coded .pop_BC s [0b11000001] 12) ∧
    (exec .pop_DE s = .next { s with d := hi, e := lo, sp := s.sp + 2, pc := s.pc + 1 } ∧
      Claims.coded .pop_DE s [0b11010001] 12) ∧
    (exec .pop_HL s = .next { s with h := hi, l := lo, sp := s.sp + 2, pc := s.pc + 1 } ∧
      Claims.coded .pop_HL s [0b11100001] 12) ∧
    (exec .pop_AF s = .next
        { s with
          a := hi, zf := lo.toNat.testBit 7, nf := lo.toNat.testBit 6,
          hf := lo.toNat.testBit 5, cf := lo.toNat.testBit 4,
          sp := s.sp + 2, pc := s.pc + 1 } ∧
      Claims.coded .pop_AF s [0b11110001] 12)

/-! ### Arithmetic and logic -/

/-- R191 to R196, with the functions of R190: ADD and ADC in their three operand forms. -/
def Obligations.Additions : Prop :=
  ∀ (i : Instr) (s : State),
    (∀ r, i.form = .aluR .add r → exec i s = .next (Claims.added (s.r8 r) 0 1 s) ∧
      Claims.coded i s [0b10000#5 ++ r.code] 4) ∧
    (i.form = .aluAtHl .add → exec i s = .next (Claims.added (s.read s.hl) 0 1 s) ∧
      Claims.coded i s [0b10000110] 8) ∧
    (∀ n, i.form = .aluN .add n → exec i s = .next (Claims.added n 0 2 s) ∧
      Claims.coded i s [0b11000110, n] 8) ∧
    (∀ r, i.form = .aluR .adc r → exec i s = .next (Claims.added (s.r8 r) s.cf.toNat 1 s) ∧
      Claims.coded i s [0b10001#5 ++ r.code] 4) ∧
    (i.form = .aluAtHl .adc → exec i s = .next (Claims.added (s.read s.hl) s.cf.toNat 1 s) ∧
      Claims.coded i s [0b10001110] 8) ∧
    (∀ n, i.form = .aluN .adc n → exec i s = .next (Claims.added n s.cf.toNat 2 s) ∧
      Claims.coded i s [0b11001110, n] 8)

/-- R197 to R202, with the functions of R190: SUB and SBC in their three operand forms. -/
def Obligations.Subtractions : Prop :=
  ∀ (i : Instr) (s : State),
    (∀ r, i.form = .aluR .sub r → exec i s = .next (Claims.subtracted (s.r8 r) 0 1 s) ∧
      Claims.coded i s [0b10010#5 ++ r.code] 4) ∧
    (i.form = .aluAtHl .sub → exec i s = .next (Claims.subtracted (s.read s.hl) 0 1 s) ∧
      Claims.coded i s [0b10010110] 8) ∧
    (∀ n, i.form = .aluN .sub n → exec i s = .next (Claims.subtracted n 0 2 s) ∧
      Claims.coded i s [0b11010110, n] 8) ∧
    (∀ r, i.form = .aluR .sbc r →
      exec i s = .next (Claims.subtracted (s.r8 r) s.cf.toNat 1 s) ∧
      Claims.coded i s [0b10011#5 ++ r.code] 4) ∧
    (i.form = .aluAtHl .sbc →
      exec i s = .next (Claims.subtracted (s.read s.hl) s.cf.toNat 1 s) ∧
      Claims.coded i s [0b10011110] 8) ∧
    (∀ n, i.form = .aluN .sbc n → exec i s = .next (Claims.subtracted n s.cf.toNat 2 s) ∧
      Claims.coded i s [0b11011110, n] 8)

/-- R212, R213 and R214: CP writes the flags of a subtraction and keeps A; Zf is A = v and Cf is A < v. -/
def Obligations.Comparisons : Prop :=
  (∀ (i : Instr) (s : State),
    (∀ r, i.form = .aluR .cp r → exec i s = .next (Claims.compared (s.r8 r) 0 1 s) ∧
      Claims.coded i s [0b10111#5 ++ r.code] 4) ∧
    (i.form = .aluAtHl .cp → exec i s = .next (Claims.compared (s.read s.hl) 0 1 s) ∧
      Claims.coded i s [0b10111110] 8) ∧
    (∀ n, i.form = .aluN .cp n → exec i s = .next (Claims.compared n 0 2 s) ∧
      Claims.coded i s [0b11111110, n] 8)) ∧
  (∀ (v : Byte) (len : Word) (s : State),
    ((Claims.compared v 0 len s).zf = true ↔ s.a = v) ∧
    ((Claims.compared v 0 len s).cf = true ↔ s.a < v))

/-- R203 to R211: AND, XOR and OR in their three operand forms. -/
def Obligations.Logic : Prop :=
  ∀ (i : Instr) (s : State),
    (∀ r, i.form = .aluR .and r → exec i s = .next (Claims.logical (s.a &&& s.r8 r) true 1 s) ∧
      Claims.coded i s [0b10100#5 ++ r.code] 4) ∧
    (i.form = .aluAtHl .and →
      exec i s = .next (Claims.logical (s.a &&& s.read s.hl) true 1 s) ∧
      Claims.coded i s [0b10100110] 8) ∧
    (∀ n, i.form = .aluN .and n → exec i s = .next (Claims.logical (s.a &&& n) true 2 s) ∧
      Claims.coded i s [0b11100110, n] 8) ∧
    (∀ r, i.form = .aluR .xor r → exec i s = .next (Claims.logical (s.a ^^^ s.r8 r) false 1 s) ∧
      Claims.coded i s [0b10101#5 ++ r.code] 4) ∧
    (i.form = .aluAtHl .xor →
      exec i s = .next (Claims.logical (s.a ^^^ s.read s.hl) false 1 s) ∧
      Claims.coded i s [0b10101110] 8) ∧
    (∀ n, i.form = .aluN .xor n → exec i s = .next (Claims.logical (s.a ^^^ n) false 2 s) ∧
      Claims.coded i s [0b11101110, n] 8) ∧
    (∀ r, i.form = .aluR .or r → exec i s = .next (Claims.logical (s.a ||| s.r8 r) false 1 s) ∧
      Claims.coded i s [0b10110#5 ++ r.code] 4) ∧
    (i.form = .aluAtHl .or →
      exec i s = .next (Claims.logical (s.a ||| s.read s.hl) false 1 s) ∧
      Claims.coded i s [0b10110110] 8) ∧
    (∀ n, i.form = .aluN .or n → exec i s = .next (Claims.logical (s.a ||| n) false 2 s) ∧
      Claims.coded i s [0b11110110, n] 8)

/-- R215 to R218: INC and DEC of a register and of the byte at HL; Cf is kept. -/
def Obligations.IncrementsAndDecrements : Prop :=
  ∀ (i : Instr) (s : State),
    (∀ r, i.form = .incR r → exec i s = .next
        { s.setR8 r (BitVec.ofNat 8 ((s.r8 r).toNat + 1)) with
          zf := decide ((s.r8 r).toNat = 255), nf := false,
          hf := decide ((s.r8 r).toNat % 16 = 15), pc := s.pc + 1 } ∧
      Claims.coded i s [0b00#2 ++ r.code ++ 0b100#3] 4) ∧
    (i.form = .incAtHl → exec i s = .next
        { s.write s.hl (BitVec.ofNat 8 ((s.read s.hl).toNat + 1)) with
          zf := decide ((s.read s.hl).toNat = 255), nf := false,
          hf := decide ((s.read s.hl).toNat % 16 = 15), pc := s.pc + 1 } ∧
      Claims.coded i s [0b00110100] 12) ∧
    (∀ r, i.form = .decR r → exec i s = .next
        { s.setR8 r (BitVec.ofNat 8 ((s.r8 r).toNat + 255)) with
          zf := decide ((s.r8 r).toNat = 1), nf := true,
          hf := decide ((s.r8 r).toNat % 16 = 0), pc := s.pc + 1 } ∧
      Claims.coded i s [0b00#2 ++ r.code ++ 0b101#3] 4) ∧
    (i.form = .decAtHl → exec i s = .next
        { s.write s.hl (BitVec.ofNat 8 ((s.read s.hl).toNat + 255)) with
          zf := decide ((s.read s.hl).toNat = 1), nf := true,
          hf := decide ((s.read s.hl).toNat % 16 = 0), pc := s.pc + 1 } ∧
      Claims.coded i s [0b00110101] 12)

/-- R219 to R222: DAA on every input, CPL, SCF and CCF. The two tests of DAA look at the A before the instruction, and the corrections are added or, after a subtraction, subtracted. -/
def Obligations.AccumulatorAndFlagOps : Prop :=
  ∀ s : State,
    let high := s.cf || (!s.nf && decide (s.a.toNat > 0x99))
    let low := s.hf || (!s.nf && decide (s.a.toNat % 16 > 9))
    let correction := (if high then 0x60 else 0) + (if low then 0x06 else 0)
    let res := (if s.nf then s.a.toNat + 256 - correction else s.a.toNat + correction) % 256
    (exec .daa s = .next
        { s with
          a := BitVec.ofNat 8 res, zf := decide (res = 0), hf := false, cf := high,
          pc := s.pc + 1 } ∧
      Claims.coded .daa s [0b00100111] 4) ∧
    (exec .cpl s = .next
        { s with a := BitVec.ofNat 8 (255 - s.a.toNat), nf := true, hf := true, pc := s.pc + 1 } ∧
      Claims.coded .cpl s [0b00101111] 4) ∧
    (exec .scf s = .next { s with nf := false, hf := false, cf := true, pc := s.pc + 1 } ∧
      Claims.coded .scf s [0b00110111] 4) ∧
    (exec .ccf s = .next { s with nf := false, hf := false, cf := !s.cf, pc := s.pc + 1 } ∧
      Claims.coded .ccf s [0b00111111] 4)

/-- R231 (with R230), R232 and R233: ADD HL,rr, INC rr and DEC rr. -/
def Obligations.Arithmetic16 : Prop :=
  ∀ (i : Instr) (p : Reg16) (s : State),
    (i.form = .addHlRr p → exec i s = .next
        { s.setHl (BitVec.ofNat 16 ((s.hl.toNat + (s.r16 p).toNat) % 65536)) with
          nf := false
          hf := decide (s.hl.toNat % 4096 + (s.r16 p).toNat % 4096 > 4095)
          cf := decide (s.hl.toNat + (s.r16 p).toNat > 65535)
          pc := s.pc + 1 } ∧
      Claims.coded i s [0b00#2 ++ p.code ++ 0b1001#4] 8) ∧
    (i.form = .incRr p → exec i s = .next
        { s.setR16 p (BitVec.ofNat 16 ((s.r16 p).toNat + 1)) with pc := s.pc + 1 } ∧
      Claims.coded i s [0b00#2 ++ p.code ++ 0b0011#4] 8) ∧
    (i.form = .decRr p → exec i s = .next
        { s.setR16 p (BitVec.ofNat 16 ((s.r16 p).toNat + 65535)) with pc := s.pc + 1 } ∧
      Claims.coded i s [0b00#2 ++ p.code ++ 0b1011#4] 8)

/-- R235 and R236, with the flag function of R234: ADD SP,e and LD HL,SP+e. -/
def Obligations.SpPlusDisplacement : Prop :=
  ∀ (e : Byte) (s : State),
    (exec (.add_SP_e e) s = .next
        { s with
          sp := BitVec.ofInt 16 (s.sp.toNat + e.toInt)
          zf := false
          nf := false
          hf := decide (s.sp.toNat % 16 + e.toNat % 16 > 15)
          cf := decide (s.sp.toNat % 256 + e.toNat > 255)
          pc := s.pc + 2 } ∧
      Claims.coded (.add_SP_e e) s [0b11101000, e] 16) ∧
    (exec (.ld_HL_SPe e) s = .next
        { s.setHl (BitVec.ofInt 16 (s.sp.toNat + e.toInt)) with
          zf := false
          nf := false
          hf := decide (s.sp.toNat % 16 + e.toNat % 16 > 15)
          cf := decide (s.sp.toNat % 256 + e.toNat > 255)
          pc := s.pc + 2 } ∧
      Claims.coded (.ld_HL_SPe e) s [0b11111000, e] 12)

/-! ### Rotates, shifts and bits -/

/-- R250 to R253: the four rotates of A, which clear Zf. -/
def Obligations.AccumulatorRotates : Prop :=
  ∀ s : State,
    (exec .rlca s = .next
        { s with
          a := BitVec.ofNat 8 (2 * s.a.toNat % 256 + s.a.toNat / 128), zf := false, nf := false,
          hf := false, cf := decide (s.a.toNat / 128 = 1), pc := s.pc + 1 } ∧
      Claims.coded .rlca s [0b00000111] 4) ∧
    (exec .rrca s = .next
        { s with
          a := BitVec.ofNat 8 (s.a.toNat / 2 + 128 * (s.a.toNat % 2)), zf := false, nf := false,
          hf := false, cf := decide (s.a.toNat % 2 = 1), pc := s.pc + 1 } ∧
      Claims.coded .rrca s [0b00001111] 4) ∧
    (exec .rla s = .next
        { s with
          a := BitVec.ofNat 8 (2 * s.a.toNat % 256 + s.cf.toNat), zf := false, nf := false,
          hf := false, cf := decide (s.a.toNat / 128 = 1), pc := s.pc + 1 } ∧
      Claims.coded .rla s [0b00010111] 4) ∧
    (exec .rra s = .next
        { s with
          a := BitVec.ofNat 8 (s.a.toNat / 2 + 128 * s.cf.toNat), zf := false, nf := false,
          hf := false, cf := decide (s.a.toNat % 2 = 1), pc := s.pc + 1 } ∧
      Claims.coded .rra s [0b00011111] 4)

/-- R255, R257, R259, R261, R263, R265, R267 and R269: the extended rotates and shifts of a register. -/
def Obligations.ShiftRegister : Prop :=
  ∀ (i : Instr) (op : ShiftOp) (r : Reg8) (s : State), i.form = .shiftR op r →
    let x := Claims.shifted op (s.r8 r).toNat s.cf
    exec i s = .next
      { s.setR8 r (BitVec.ofNat 8 x.1) with
        zf := decide (x.1 = 0), nf := false, hf := false, cf := x.2, pc := s.pc + 2 } ∧
    Claims.coded i s [0b11001011, 0b00#2 ++ op.code ++ r.code] 8

/-- R256, R258, R260, R262, R264, R266, R268 and R270: the extended rotates and shifts of the byte at HL. -/
def Obligations.ShiftAtHl : Prop :=
  ∀ (i : Instr) (op : ShiftOp) (s : State), i.form = .shiftAtHl op →
    let x := Claims.shifted op (s.read s.hl).toNat s.cf
    exec i s = .next
      { s.write s.hl (BitVec.ofNat 8 x.1) with
        zf := decide (x.1 = 0), nf := false, hf := false, cf := x.2, pc := s.pc + 2 } ∧
    Claims.coded i s [0b11001011, 0b00#2 ++ op.code ++ 0b110#3] 16

/-- R271 and R272: BIT b,r and BIT b,(HL). -/
def Obligations.BitTest : Prop :=
  (∀ (i : Instr) (k : Fin 8) (r : Reg8) (s : State), i.form = .bitR k r →
    exec i s = .next
      { s with
        zf := decide ((s.r8 r).toNat / 2 ^ k.val % 2 = 0), nf := false, hf := true,
        pc := s.pc + 2 } ∧
    Claims.coded i s [0b11001011, 0b01#2 ++ BitVec.ofNat 3 k.val ++ r.code] 8) ∧
  (∀ (i : Instr) (k : Fin 8) (s : State), i.form = .bitAtHl k →
    exec i s = .next
      { s with
        zf := decide ((s.read s.hl).toNat / 2 ^ k.val % 2 = 0), nf := false, hf := true,
        pc := s.pc + 2 } ∧
    Claims.coded i s [0b11001011, 0b01#2 ++ BitVec.ofNat 3 k.val ++ 0b110#3] 12)

/-- R273 to R276: RES and SET of a bit of a register and of the byte at HL. -/
def Obligations.BitResetAndSet : Prop :=
  ∀ (i : Instr) (k : Fin 8) (s : State),
    (∀ r, i.form = .resR k r →
      exec i s = .next { s.setR8 r (Claims.bitCleared (s.r8 r) k) with pc := s.pc + 2 } ∧
      Claims.coded i s [0b11001011, 0b10#2 ++ BitVec.ofNat 3 k.val ++ r.code] 8) ∧
    (i.form = .resAtHl k →
      exec i s = .next
        { s.write s.hl (Claims.bitCleared (s.read s.hl) k) with pc := s.pc + 2 } ∧
      Claims.coded i s [0b11001011, 0b10#2 ++ BitVec.ofNat 3 k.val ++ 0b110#3] 16) ∧
    (∀ r, i.form = .setR k r →
      exec i s = .next { s.setR8 r (Claims.bitRaised (s.r8 r) k) with pc := s.pc + 2 } ∧
      Claims.coded i s [0b11001011, 0b11#2 ++ BitVec.ofNat 3 k.val ++ r.code] 8) ∧
    (i.form = .setAtHl k →
      exec i s = .next
        { s.write s.hl (Claims.bitRaised (s.read s.hl) k) with pc := s.pc + 2 } ∧
      Claims.coded i s [0b11001011, 0b11#2 ++ BitVec.ofNat 3 k.val ++ 0b110#3] 16)

/-! ### Control transfer and system instructions -/

/-- R290 to R294, with the conditions of R29: the jumps. -/
def Obligations.Jumps : Prop :=
  (∀ s : State, s.cond .nz = !s.zf ∧ s.cond .z = s.zf ∧ s.cond .nc = !s.cf ∧ s.cond .c = s.cf) ∧
  (∀ (nn : Word) (s : State), exec (.jp_nn nn) s = .next { s with pc := nn } ∧
    Claims.coded (.jp_nn nn) s (0b11000011 :: Claims.immediate nn) 16) ∧
  (∀ (i : Instr) (cc : Cond) (nn : Word) (s : State), i.form = .jpCcNn cc nn →
    exec i s = .next { s with pc := if s.cond cc then nn else s.pc + 3 } ∧
    Claims.coded i s ((0b110#3 ++ cc.code ++ 0b010#3) :: Claims.immediate nn)
      (if s.cond cc then 16 else 12)) ∧
  (∀ s : State, exec .jp_HL s = .next { s with pc := Claims.pairOf s.h s.l } ∧
    Claims.coded .jp_HL s [0b11101001] 4) ∧
  (∀ (e : Byte) (s : State), exec (.jr_e e) s = .next { s with pc := Claims.relative s e } ∧
    Claims.coded (.jr_e e) s [0b00011000, e] 12) ∧
  (∀ (i : Instr) (cc : Cond) (e : Byte) (s : State), i.form = .jrCcE cc e →
    exec i s = .next { s with pc := if s.cond cc then Claims.relative s e else s.pc + 2 } ∧
    Claims.coded i s [0b001#3 ++ cc.code ++ 0b000#3, e] (if s.cond cc then 12 else 8))

/-- R295, R296 and R300: CALL nn, CALL cc,nn and RST. The return address is that of the next instruction. -/
def Obligations.Calls : Prop :=
  (∀ (nn : Word) (s : State),
    exec (.call_nn nn) s = .next { Claims.pushed (s.pc + 3) s with pc := nn } ∧
    Claims.coded (.call_nn nn) s (0b11001101 :: Claims.immediate nn) 24) ∧
  (∀ (i : Instr) (cc : Cond) (nn : Word) (s : State), i.form = .callCcNn cc nn →
    (s.cond cc = true → exec i s = .next { Claims.pushed (s.pc + 3) s with pc := nn }) ∧
    (s.cond cc = false → exec i s = .next { s with pc := s.pc + 3 }) ∧
    Claims.coded i s ((0b110#3 ++ cc.code ++ 0b100#3) :: Claims.immediate nn)
      (if s.cond cc then 24 else 12)) ∧
  (∀ (i : Instr) (t : Fin 8) (s : State), i.form = .rst t →
    exec i s = .next
      { Claims.pushed (s.pc + 1) s with pc := BitVec.ofNat 16 (8 * t.val) } ∧
    Claims.coded i s [0b11#2 ++ BitVec.ofNat 3 t.val ++ 0b111#3] 16)

/-- R297, R298 and R299: RET, RET cc and RETI. -/
def Obligations.Returns : Prop :=
  (∀ s : State, exec .ret s = .next (Claims.returned s) ∧
    Claims.coded .ret s [0b11001001] 16) ∧
  (∀ (i : Instr) (cc : Cond) (s : State), i.form = .retCc cc →
    (s.cond cc = true → exec i s = .next (Claims.returned s)) ∧
    (s.cond cc = false → exec i s = .next { s with pc := s.pc + 1 }) ∧
    Claims.coded i s [0b110#3 ++ cc.code ++ 0b000#3] (if s.cond cc then 20 else 8)) ∧
  (∀ s : State, exec .reti s = .next { Claims.returned s with ime := true } ∧
    Claims.coded .reti s [0b11011001] 16)

/-- R320, R321, R323, R325 and R326: NOP, HALT, STOP, DI and EI. -/
def Obligations.SystemInstructions : Prop :=
  ∀ s : State,
    (exec .nop s = .next { s with pc := s.pc + 1 } ∧ Claims.coded .nop s [0b00000000] 4) ∧
    (exec .halt s = .next
        { s with pc := s.pc + 1, halted := s.halted || decide (s.pending = 0) } ∧
      Claims.coded .halt s [0b01110110] 4) ∧
    (∀ x : Byte, exec (.stop x) s = .next { s with pc := s.pc + 2, stopped := true } ∧
      Claims.coded (.stop x) s [0b00010000, x] 4) ∧
    (exec .di s = .next { s with ime := false, imePending := false, pc := s.pc + 1 } ∧
      Claims.coded .di s [0b11110011] 4) ∧
    (exec .ei s = .next { s with imePending := true, pc := s.pc + 1 } ∧
      Claims.coded .ei s [0b11111011] 4)

/-! ### What an instruction leaves alone -/

/-- Every byte an instruction does not store to reads as before, at every address and in every array. `Form.stores` gives the addresses of a form's stores, each the expression its meaning stores at; a form that stores nothing has none. -/
def Obligations.MemoryFrame : Prop :=
  ∀ (i : Instr) (s t : State), s.mem.wf → exec i s = .next t →
    (∀ a, (∀ w ∈ i.form.stores s, ¬ Claims.sameByte s.boot a w) → t.read a = s.read a) ∧
    (∀ k, (∀ w ∈ i.form.stores s, cellOf w s.boot ≠ some k) → t.mem.peek k = s.mem.peek k)

/-- R12: a flag whose column is `-` keeps its value, and one whose column is a constant has it. `Form.marks` is the column of a form's rule. -/
def Obligations.FlagFrame : Prop :=
  ∀ (i : Instr) (s t : State), exec i s = .next t →
    i.form.marks.z.holds s.zf t.zf ∧ i.form.marks.n.holds s.nf t.nf ∧
    i.form.marks.h.holds s.hf t.hf ∧ i.form.marks.c.holds s.cf t.cf

/-- Every register is unchanged but the form's destinations, and every latch but those the rules of RETI, DI, EI, HALT and STOP name. `Form.dests` gives the general registers a form's rule writes (HL too where the access steps it) and `Form.writesSp` says whether it writes SP. -/
def Obligations.RegisterFrame : Prop :=
  ∀ (i : Instr) (s t : State), exec i s = .next t →
    (∀ r, r ∉ i.form.dests → t.r8 r = s.r8 r) ∧
    (i.form.writesSp = false → t.sp = s.sp) ∧
    t.boot = s.boot ∧
    (i ≠ .reti → i ≠ .di → t.ime = s.ime) ∧
    (i ≠ .ei → i ≠ .di → t.imePending = s.imePending) ∧
    (i ≠ .halt → t.halted = s.halted) ∧
    ((∀ x, i ≠ .stop x) → t.stopped = s.stopped)

/-- R105: a form that does not branch moves PC by the instruction's length; an unconditional branch sets it to its target; a conditional one sets it to its target if its condition holds and moves it by the length if not; only a branch to itself leaves PC. -/
def Obligations.PcDiscipline : Prop :=
  ∀ (i : Instr) (s t : State), exec i s = .next t →
    (i.form.branches = false → t.pc = s.pc + BitVec.ofNat 16 (encode i).length) ∧
    (i.form.branches = true → Claims.conditionOf i.form = none →
      t.pc = Claims.target s i.form) ∧
    (∀ cc, Claims.conditionOf i.form = some cc →
      t.pc = if s.cond cc then Claims.target s i.form
        else s.pc + BitVec.ofNat 16 (encode i).length) ∧
    (1 ≤ (encode i).length ∧ (encode i).length ≤ 3) ∧
    (t.pc = s.pc → i.form.branches = true ∧ Claims.target s i.form = s.pc)

/-- Every step costs at most 24 cycles, a faulting one none and every other at least 4; a conditional branch costs fewer when not taken (R121, R379, R380). -/
def Obligations.CycleCounts : Prop :=
  (∀ (cfg : Config) (s : State), stepCycles cfg s ≤ 24 ∧
    (SafeStep cfg s ↔ 4 ≤ stepCycles cfg s) ∧ (¬ SafeStep cfg s ↔ stepCycles cfg s = 0)) ∧
  (∀ (f : Form) (cc : Cond) (s s' : State),
    ((∃ nn, f = .jpCcNn cc nn) ∨ (∃ e, f = .jrCcE cc e) ∨ (∃ nn, f = .callCcNn cc nn) ∨
      f = .retCc cc) →
    s.cond cc = true → s'.cond cc = false → f.cycles s' < f.cycles s)
end

