-- ==== Sys2Proof/Laws/Bytes.lean ====
section
/-! SUPPORT. Words and their two bytes. -/

namespace Sys2Proof

@[simp] theorem hiByte_joinBytes (hi lo : Byte) : hiByte (joinBytes hi lo) = hi := by
  unfold hiByte joinBytes
  ext i hi'
  simp only [BitVec.getElem_extractLsb', BitVec.getLsbD_append]
  simp
  rw [BitVec.getLsbD_eq_getElem (by omega)]

@[simp] theorem loByte_joinBytes (hi lo : Byte) : loByte (joinBytes hi lo) = lo := by
  unfold loByte joinBytes
  ext i hi'
  simp only [BitVec.getElem_extractLsb', BitVec.getLsbD_append]
  have : i < 8 := hi'
  simp [this]

@[simp] theorem joinBytes_hiByte_loByte (w : Word) : joinBytes (hiByte w) (loByte w) = w := by
  unfold joinBytes hiByte loByte
  apply BitVec.eq_of_getLsbD_eq
  intro i h
  simp only [BitVec.getLsbD_append, BitVec.getLsbD_extractLsb']
  by_cases hi : i < 8
  · simp [hi]
  · have : i - 8 < 8 := by omega
    have e : 8 + (i - 8) = i := by omega
    simp [hi, this, e]

end Sys2Proof
end

