-- ==== Sys2Proof/Laws/Memory.lean ====
section
/-! SUPPORT. The storage as canonical data: reading after writing, the canonical form kept by every operation, equal contents as equal data. -/

namespace Sys2Proof.Machine

theorem Memory.peek_of_lt {m : Memory} {k : Nat} (h : ∀ x ∈ m, k < x.1) :
    m.peek k = emptyByte := by
  induction m with
  | nil => rfl
  | cons x m ih =>
    have hx := h x List.mem_cons_self
    have : k ≠ x.1 := by omega
    simp only [Memory.peek, if_neg this]
    exact ih fun y hy => h y (List.mem_cons_of_mem _ hy)

/-- A cell placed in front of greater ones reads as placed, and the others as before. -/
theorem Memory.peek_place {m : Memory} {k : Nat} (h : ∀ x ∈ m, k < x.1) (v : Byte) (j : Nat) :
    (Memory.place k v m).peek j = if j = k then v else m.peek j := by
  unfold Memory.place
  split
  · rename_i hv
    split
    · subst_vars; exact Memory.peek_of_lt h
    · rfl
  · rfl

/-- Reading after writing: the written cell gives the byte, every other cell what it held. -/
theorem Memory.peek_poke {m : Memory} (hm : m.Pairwise fun x y => x.1 < y.1) (k : Nat) (v : Byte)
    (j : Nat) : (m.poke k v).peek j = if j = k then v else m.peek j := by
  induction m with
  | nil => exact Memory.peek_place (by simp) v j
  | cons x m ih =>
    obtain ⟨hx, hm⟩ := List.pairwise_cons.mp hm
    simp only [Memory.poke]
    split
    · rename_i hk
      apply Memory.peek_place
      intro y hy
      rcases List.mem_cons.mp hy with rfl | hy
      · exact hk
      · exact Nat.lt_trans hk (hx y hy)
    · split
      · rename_i hk
        rw [Memory.peek_place (by intro y hy; rw [hk]; exact hx y hy)]
        split
        · rfl
        · rename_i hj
          have : j ≠ x.1 := by omega
          simp only [Memory.peek, if_neg this]
      · simp only [Memory.peek]
        rw [ih hm]
        split
        · have : j ≠ k := by omega
          simp only [if_neg this]
        · rfl

theorem Memory.mem_place {m : Memory} {k : Nat} {v : Byte} {x : Host.Cell}
    (h : x ∈ Memory.place k v m) : x = (k, v) ∧ v ≠ emptyByte ∨ x ∈ m := by
  unfold Memory.place at h
  split at h
  · exact .inr h
  · rename_i hv
    rcases List.mem_cons.mp h with rfl | h
    · exact .inl ⟨rfl, hv⟩
    · exact .inr h

/-- A write lists at most its own cell anew, and never with the empty byte. -/
theorem Memory.mem_poke {m : Memory} {k : Nat} {v : Byte} {x : Host.Cell}
    (h : x ∈ m.poke k v) : x = (k, v) ∧ v ≠ emptyByte ∨ x ∈ m := by
  induction m with
  | nil => exact Memory.mem_place h
  | cons y m ih =>
    simp only [Memory.poke] at h
    split at h
    · exact Memory.mem_place h
    · split at h
      · exact (Memory.mem_place h).imp_right (List.mem_cons_of_mem _)
      · rcases List.mem_cons.mp h with rfl | h
        · exact .inr List.mem_cons_self
        · exact (ih h).imp_right (List.mem_cons_of_mem _)

theorem Memory.place_wf {m : Memory} {k : Nat} {v : Byte} (h : ∀ x ∈ m, k < x.1) (hm : m.wf) :
    (Memory.place k v m).wf := by
  constructor
  · unfold Memory.place
    split
    · exact hm.1
    · exact List.pairwise_cons.mpr ⟨h, hm.1⟩
  · intro x hx
    rcases Memory.mem_place hx with ⟨rfl, hv⟩ | hx
    · exact hv
    · exact hm.2 x hx

/-- A write keeps the canonical form. -/
theorem Memory.poke_wf {m : Memory} (hm : m.wf) (k : Nat) (v : Byte) : (m.poke k v).wf := by
  induction m with
  | nil => exact Memory.place_wf (by simp) hm
  | cons x m ih =>
    obtain ⟨hp, he⟩ := hm
    obtain ⟨hx, hp⟩ := List.pairwise_cons.mp hp
    have hm : Memory.wf m := ⟨hp, fun y hy => he y (List.mem_cons_of_mem _ hy)⟩
    simp only [Memory.poke]
    split
    · rename_i hk
      apply Memory.place_wf
      · intro y hy
        rcases List.mem_cons.mp hy with rfl | hy
        · exact hk
        · exact Nat.lt_trans hk (hx y hy)
      · exact ⟨List.pairwise_cons.mpr ⟨hx, hp⟩, he⟩
    · split
      · rename_i hk
        exact Memory.place_wf (by intro y hy; rw [hk]; exact hx y hy) hm
      · have ih := ih hm
        constructor
        · refine List.pairwise_cons.mpr ⟨?_, ih.1⟩
          intro y hy
          rcases Memory.mem_poke hy with ⟨rfl, -⟩ | hy
          · simp only; omega
          · exact hx y hy
        · intro y hy
          rcases List.mem_cons.mp hy with rfl | hy
          · exact he _ List.mem_cons_self
          · exact ih.2 y hy

/-- A run of writes keeps the canonical form. -/
theorem Memory.pokeRun_wf {m : Memory} (hm : m.wf) (k : Nat) (vs : List Byte) :
    (m.pokeRun k vs).wf := by
  induction vs generalizing m k with
  | nil => exact hm
  | cons v vs ih => exact ih (Memory.poke_wf hm k v) (k + 1)

/-- A run of writes lists no cell anew but those it writes. -/
theorem Memory.mem_pokeRun {m : Memory} {k : Nat} {vs : List Byte} {x : Host.Cell}
    (h : x ∈ m.pokeRun k vs) : k ≤ x.1 ∧ x.1 < k + vs.length ∨ x ∈ m := by
  induction vs generalizing m k with
  | nil => exact .inr h
  | cons v vs ih =>
    rcases ih h with hx | hx
    · left; simp only [List.length_cons]; omega
    · rcases Memory.mem_poke hx with ⟨rfl, -⟩ | hx
      · left; simp
      · exact .inr hx

/-- Reading after a run of writes: the j-th byte in cell k + j, every other cell as before. -/
theorem Memory.peek_pokeRun {m : Memory} (hm : m.wf) (k : Nat) (vs : List Byte) (j : Nat) :
    (m.pokeRun k vs).peek j = if k ≤ j then vs.getD (j - k) (m.peek j) else m.peek j := by
  induction vs generalizing m k with
  | nil => simp [Memory.pokeRun]
  | cons v vs ih =>
    simp only [Memory.pokeRun]
    rw [ih (Memory.poke_wf hm k v) (k + 1), Memory.peek_poke hm.1]
    by_cases h1 : k ≤ j
    · by_cases h2 : j = k
      · subst h2; simp
      · have h3 : k + 1 ≤ j := by omega
        have h4 : j - k = (j - (k + 1)) + 1 := by omega
        simp [h1, h2, h3, h4]
    · have h3 : ¬k + 1 ≤ j := by omega
      have h2 : j ≠ k := by omega
      simp [h1, h2, h3]

/-- Canonical storages that read the same in every cell are the same list. -/
theorem Memory.eq_of_peek_eq {m m' : Memory} (hm : m.wf) (hm' : m'.wf)
    (h : ∀ k, m.peek k = m'.peek k) : m = m' := by
  have headCell : ∀ {x : Host.Cell} {n n' : Memory}, Memory.wf (x :: n) → Memory.wf n' →
      (∀ k, Memory.peek (x :: n) k = n'.peek k) → ∃ y t, n' = y :: t ∧ y.1 ≤ x.1 := by
    intro x n n' hx hn' hk
    cases n' with
    | nil =>
      have e := hk x.1
      simp only [Memory.peek, if_true] at e
      exact absurd e (hx.2 x List.mem_cons_self)
    | cons y t =>
      refine ⟨y, t, rfl, ?_⟩
      by_contra hc
      have e := hk x.1
      rw [Memory.peek_of_lt (m := y :: t)] at e
      · simp only [Memory.peek, if_true] at e
        exact hx.2 x List.mem_cons_self e
      · intro z hz
        rcases List.mem_cons.mp hz with rfl | hz
        · omega
        · have := (List.pairwise_cons.mp hn'.1).1 z hz; omega
  induction m generalizing m' with
  | nil =>
    cases m' with
    | nil => rfl
    | cons y t =>
      obtain ⟨x, u, hu, -⟩ := headCell hm' hm fun k => (h k).symm
      simp at hu
  | cons x n ih =>
    obtain ⟨y, t, rfl, hyx⟩ := headCell hm hm' h
    obtain ⟨x', u, hu, hxy⟩ := headCell hm' hm fun k => (h k).symm
    obtain ⟨rfl, rfl⟩ := List.cons.inj hu
    have e1 : x.1 = y.1 := by omega
    have e2 : x.2 = y.2 := by
      have e := h x.1
      simpa [Memory.peek, e1] using e
    have hxe : x = y := Prod.ext e1 e2
    subst hxe
    obtain ⟨px, pn⟩ := List.pairwise_cons.mp hm.1
    obtain ⟨py, pt⟩ := List.pairwise_cons.mp hm'.1
    rw [ih (m' := t) ⟨pn, fun z hz => hm.2 z (List.mem_cons_of_mem _ hz)⟩
      ⟨pt, fun z hz => hm'.2 z (List.mem_cons_of_mem _ hz)⟩ ?_]
    intro k
    by_cases hk : k = x.1
    · subst hk
      rw [Memory.peek_of_lt px, Memory.peek_of_lt py]
    · have e := h k
      simpa only [Memory.peek, if_neg hk] using e

end Sys2Proof.Machine
end

