-- ==== Sys2Proof/Laws/State.lean ====
section
/-! SUPPORT. What each update of the state leaves in each field, one lemma for each field of each update, and the views of the state that an update leaves alone. -/

namespace Sys2Proof.Machine

variable (s : State)

/-! ### setFlags -/

@[simp] theorem setFlags_a (z n h c : Bool) : (s.setFlags z n h c).a = s.a := rfl
@[simp] theorem setFlags_b (z n h c : Bool) : (s.setFlags z n h c).b = s.b := rfl
@[simp] theorem setFlags_c (z n h c : Bool) : (s.setFlags z n h c).c = s.c := rfl
@[simp] theorem setFlags_d (z n h c : Bool) : (s.setFlags z n h c).d = s.d := rfl
@[simp] theorem setFlags_e (z n h c : Bool) : (s.setFlags z n h c).e = s.e := rfl
@[simp] theorem setFlags_h (z n h c : Bool) : (s.setFlags z n h c).h = s.h := rfl
@[simp] theorem setFlags_l (z n h c : Bool) : (s.setFlags z n h c).l = s.l := rfl
@[simp] theorem setFlags_zf (z n h c : Bool) : (s.setFlags z n h c).zf = z := rfl
@[simp] theorem setFlags_nf (z n h c : Bool) : (s.setFlags z n h c).nf = n := rfl
@[simp] theorem setFlags_hf (z n h c : Bool) : (s.setFlags z n h c).hf = h := rfl
@[simp] theorem setFlags_cf (z n h c : Bool) : (s.setFlags z n h c).cf = c := rfl
@[simp] theorem setFlags_pc (z n h c : Bool) : (s.setFlags z n h c).pc = s.pc := rfl
@[simp] theorem setFlags_sp (z n h c : Bool) : (s.setFlags z n h c).sp = s.sp := rfl
@[simp] theorem setFlags_ime (z n h c : Bool) : (s.setFlags z n h c).ime = s.ime := rfl
@[simp] theorem setFlags_imePending (z n h c : Bool) : (s.setFlags z n h c).imePending = s.imePending := rfl
@[simp] theorem setFlags_halted (z n h c : Bool) : (s.setFlags z n h c).halted = s.halted := rfl
@[simp] theorem setFlags_stopped (z n h c : Bool) : (s.setFlags z n h c).stopped = s.stopped := rfl
@[simp] theorem setFlags_boot (z n h c : Bool) : (s.setFlags z n h c).boot = s.boot := rfl
@[simp] theorem setFlags_mem (z n h c : Bool) : (s.setFlags z n h c).mem = s.mem := rfl
@[simp] theorem setFlags_r8 (z n h c : Bool) (x8 : Reg8) : (s.setFlags z n h c).r8 x8 = s.r8 x8 := by cases x8 <;> simp [State.r8]
@[simp] theorem setFlags_bc (z n h c : Bool) : (s.setFlags z n h c).bc = s.bc := by simp [State.bc]
@[simp] theorem setFlags_de (z n h c : Bool) : (s.setFlags z n h c).de = s.de := by simp [State.de]
@[simp] theorem setFlags_hl (z n h c : Bool) : (s.setFlags z n h c).hl = s.hl := by simp [State.hl]
@[simp] theorem setFlags_r16 (z n h c : Bool) (p16 : Reg16) : (s.setFlags z n h c).r16 p16 = s.r16 p16 := by cases p16 <;> simp [State.r16]
@[simp] theorem setFlags_read (z n h c : Bool) (y : Word) : (s.setFlags z n h c).read y = s.read y := by simp [State.read]
@[simp] theorem setFlags_pending (z n h c : Bool) : (s.setFlags z n h c).pending = s.pending := by simp [State.pending, State.ieByte, State.ifByte, State.byteOf]

/-! ### setF -/

@[simp] theorem setF_a (v : Byte) : (s.setF v).a = s.a := rfl
@[simp] theorem setF_b (v : Byte) : (s.setF v).b = s.b := rfl
@[simp] theorem setF_c (v : Byte) : (s.setF v).c = s.c := rfl
@[simp] theorem setF_d (v : Byte) : (s.setF v).d = s.d := rfl
@[simp] theorem setF_e (v : Byte) : (s.setF v).e = s.e := rfl
@[simp] theorem setF_h (v : Byte) : (s.setF v).h = s.h := rfl
@[simp] theorem setF_l (v : Byte) : (s.setF v).l = s.l := rfl
@[simp] theorem setF_zf (v : Byte) : (s.setF v).zf = v.getLsbD 7 := rfl
@[simp] theorem setF_nf (v : Byte) : (s.setF v).nf = v.getLsbD 6 := rfl
@[simp] theorem setF_hf (v : Byte) : (s.setF v).hf = v.getLsbD 5 := rfl
@[simp] theorem setF_cf (v : Byte) : (s.setF v).cf = v.getLsbD 4 := rfl
@[simp] theorem setF_pc (v : Byte) : (s.setF v).pc = s.pc := rfl
@[simp] theorem setF_sp (v : Byte) : (s.setF v).sp = s.sp := rfl
@[simp] theorem setF_ime (v : Byte) : (s.setF v).ime = s.ime := rfl
@[simp] theorem setF_imePending (v : Byte) : (s.setF v).imePending = s.imePending := rfl
@[simp] theorem setF_halted (v : Byte) : (s.setF v).halted = s.halted := rfl
@[simp] theorem setF_stopped (v : Byte) : (s.setF v).stopped = s.stopped := rfl
@[simp] theorem setF_boot (v : Byte) : (s.setF v).boot = s.boot := rfl
@[simp] theorem setF_mem (v : Byte) : (s.setF v).mem = s.mem := rfl
@[simp] theorem setF_r8 (v : Byte) (x8 : Reg8) : (s.setF v).r8 x8 = s.r8 x8 := by cases x8 <;> simp [State.r8]
@[simp] theorem setF_bc (v : Byte) : (s.setF v).bc = s.bc := by simp [State.bc]
@[simp] theorem setF_de (v : Byte) : (s.setF v).de = s.de := by simp [State.de]
@[simp] theorem setF_hl (v : Byte) : (s.setF v).hl = s.hl := by simp [State.hl]
@[simp] theorem setF_r16 (v : Byte) (p16 : Reg16) : (s.setF v).r16 p16 = s.r16 p16 := by cases p16 <;> simp [State.r16]
@[simp] theorem setF_read (v : Byte) (y : Word) : (s.setF v).read y = s.read y := by simp [State.read]
@[simp] theorem setF_pending (v : Byte) : (s.setF v).pending = s.pending := by simp [State.pending, State.ieByte, State.ifByte, State.byteOf]

/-! ### setR8 -/

@[simp] theorem setR8_zf (r : Reg8) (v : Byte) : (s.setR8 r v).zf = s.zf := by cases r <;> rfl
@[simp] theorem setR8_nf (r : Reg8) (v : Byte) : (s.setR8 r v).nf = s.nf := by cases r <;> rfl
@[simp] theorem setR8_hf (r : Reg8) (v : Byte) : (s.setR8 r v).hf = s.hf := by cases r <;> rfl
@[simp] theorem setR8_cf (r : Reg8) (v : Byte) : (s.setR8 r v).cf = s.cf := by cases r <;> rfl
@[simp] theorem setR8_pc (r : Reg8) (v : Byte) : (s.setR8 r v).pc = s.pc := by cases r <;> rfl
@[simp] theorem setR8_sp (r : Reg8) (v : Byte) : (s.setR8 r v).sp = s.sp := by cases r <;> rfl
@[simp] theorem setR8_ime (r : Reg8) (v : Byte) : (s.setR8 r v).ime = s.ime := by cases r <;> rfl
@[simp] theorem setR8_imePending (r : Reg8) (v : Byte) : (s.setR8 r v).imePending = s.imePending := by cases r <;> rfl
@[simp] theorem setR8_halted (r : Reg8) (v : Byte) : (s.setR8 r v).halted = s.halted := by cases r <;> rfl
@[simp] theorem setR8_stopped (r : Reg8) (v : Byte) : (s.setR8 r v).stopped = s.stopped := by cases r <;> rfl
@[simp] theorem setR8_boot (r : Reg8) (v : Byte) : (s.setR8 r v).boot = s.boot := by cases r <;> rfl
@[simp] theorem setR8_mem (r : Reg8) (v : Byte) : (s.setR8 r v).mem = s.mem := by cases r <;> rfl
@[simp] theorem setR8_f (r : Reg8) (v : Byte) : (s.setR8 r v).f = s.f := by simp [State.f]
@[simp] theorem setR8_cond (r : Reg8) (v : Byte) (cc : Cond) : (s.setR8 r v).cond cc = s.cond cc := by cases cc <;> simp [State.cond]
@[simp] theorem setR8_read (r : Reg8) (v : Byte) (y : Word) : (s.setR8 r v).read y = s.read y := by simp [State.read]
@[simp] theorem setR8_pending (r : Reg8) (v : Byte) : (s.setR8 r v).pending = s.pending := by simp [State.pending, State.ieByte, State.ifByte, State.byteOf]

/-! ### setBc -/

@[simp] theorem setBc_a (v : Word) : (s.setBc v).a = s.a := rfl
@[simp] theorem setBc_b (v : Word) : (s.setBc v).b = hiByte v := rfl
@[simp] theorem setBc_c (v : Word) : (s.setBc v).c = loByte v := rfl
@[simp] theorem setBc_d (v : Word) : (s.setBc v).d = s.d := rfl
@[simp] theorem setBc_e (v : Word) : (s.setBc v).e = s.e := rfl
@[simp] theorem setBc_h (v : Word) : (s.setBc v).h = s.h := rfl
@[simp] theorem setBc_l (v : Word) : (s.setBc v).l = s.l := rfl
@[simp] theorem setBc_zf (v : Word) : (s.setBc v).zf = s.zf := rfl
@[simp] theorem setBc_nf (v : Word) : (s.setBc v).nf = s.nf := rfl
@[simp] theorem setBc_hf (v : Word) : (s.setBc v).hf = s.hf := rfl
@[simp] theorem setBc_cf (v : Word) : (s.setBc v).cf = s.cf := rfl
@[simp] theorem setBc_pc (v : Word) : (s.setBc v).pc = s.pc := rfl
@[simp] theorem setBc_sp (v : Word) : (s.setBc v).sp = s.sp := rfl
@[simp] theorem setBc_ime (v : Word) : (s.setBc v).ime = s.ime := rfl
@[simp] theorem setBc_imePending (v : Word) : (s.setBc v).imePending = s.imePending := rfl
@[simp] theorem setBc_halted (v : Word) : (s.setBc v).halted = s.halted := rfl
@[simp] theorem setBc_stopped (v : Word) : (s.setBc v).stopped = s.stopped := rfl
@[simp] theorem setBc_boot (v : Word) : (s.setBc v).boot = s.boot := rfl
@[simp] theorem setBc_mem (v : Word) : (s.setBc v).mem = s.mem := rfl
@[simp] theorem setBc_f (v : Word) : (s.setBc v).f = s.f := by simp [State.f]
@[simp] theorem setBc_cond (v : Word) (cc : Cond) : (s.setBc v).cond cc = s.cond cc := by cases cc <;> simp [State.cond]
@[simp] theorem setBc_read (v : Word) (y : Word) : (s.setBc v).read y = s.read y := by simp [State.read]
@[simp] theorem setBc_pending (v : Word) : (s.setBc v).pending = s.pending := by simp [State.pending, State.ieByte, State.ifByte, State.byteOf]

/-! ### setDe -/

@[simp] theorem setDe_a (v : Word) : (s.setDe v).a = s.a := rfl
@[simp] theorem setDe_b (v : Word) : (s.setDe v).b = s.b := rfl
@[simp] theorem setDe_c (v : Word) : (s.setDe v).c = s.c := rfl
@[simp] theorem setDe_d (v : Word) : (s.setDe v).d = hiByte v := rfl
@[simp] theorem setDe_e (v : Word) : (s.setDe v).e = loByte v := rfl
@[simp] theorem setDe_h (v : Word) : (s.setDe v).h = s.h := rfl
@[simp] theorem setDe_l (v : Word) : (s.setDe v).l = s.l := rfl
@[simp] theorem setDe_zf (v : Word) : (s.setDe v).zf = s.zf := rfl
@[simp] theorem setDe_nf (v : Word) : (s.setDe v).nf = s.nf := rfl
@[simp] theorem setDe_hf (v : Word) : (s.setDe v).hf = s.hf := rfl
@[simp] theorem setDe_cf (v : Word) : (s.setDe v).cf = s.cf := rfl
@[simp] theorem setDe_pc (v : Word) : (s.setDe v).pc = s.pc := rfl
@[simp] theorem setDe_sp (v : Word) : (s.setDe v).sp = s.sp := rfl
@[simp] theorem setDe_ime (v : Word) : (s.setDe v).ime = s.ime := rfl
@[simp] theorem setDe_imePending (v : Word) : (s.setDe v).imePending = s.imePending := rfl
@[simp] theorem setDe_halted (v : Word) : (s.setDe v).halted = s.halted := rfl
@[simp] theorem setDe_stopped (v : Word) : (s.setDe v).stopped = s.stopped := rfl
@[simp] theorem setDe_boot (v : Word) : (s.setDe v).boot = s.boot := rfl
@[simp] theorem setDe_mem (v : Word) : (s.setDe v).mem = s.mem := rfl
@[simp] theorem setDe_f (v : Word) : (s.setDe v).f = s.f := by simp [State.f]
@[simp] theorem setDe_cond (v : Word) (cc : Cond) : (s.setDe v).cond cc = s.cond cc := by cases cc <;> simp [State.cond]
@[simp] theorem setDe_read (v : Word) (y : Word) : (s.setDe v).read y = s.read y := by simp [State.read]
@[simp] theorem setDe_pending (v : Word) : (s.setDe v).pending = s.pending := by simp [State.pending, State.ieByte, State.ifByte, State.byteOf]

/-! ### setHl -/

@[simp] theorem setHl_a (v : Word) : (s.setHl v).a = s.a := rfl
@[simp] theorem setHl_b (v : Word) : (s.setHl v).b = s.b := rfl
@[simp] theorem setHl_c (v : Word) : (s.setHl v).c = s.c := rfl
@[simp] theorem setHl_d (v : Word) : (s.setHl v).d = s.d := rfl
@[simp] theorem setHl_e (v : Word) : (s.setHl v).e = s.e := rfl
@[simp] theorem setHl_h (v : Word) : (s.setHl v).h = hiByte v := rfl
@[simp] theorem setHl_l (v : Word) : (s.setHl v).l = loByte v := rfl
@[simp] theorem setHl_zf (v : Word) : (s.setHl v).zf = s.zf := rfl
@[simp] theorem setHl_nf (v : Word) : (s.setHl v).nf = s.nf := rfl
@[simp] theorem setHl_hf (v : Word) : (s.setHl v).hf = s.hf := rfl
@[simp] theorem setHl_cf (v : Word) : (s.setHl v).cf = s.cf := rfl
@[simp] theorem setHl_pc (v : Word) : (s.setHl v).pc = s.pc := rfl
@[simp] theorem setHl_sp (v : Word) : (s.setHl v).sp = s.sp := rfl
@[simp] theorem setHl_ime (v : Word) : (s.setHl v).ime = s.ime := rfl
@[simp] theorem setHl_imePending (v : Word) : (s.setHl v).imePending = s.imePending := rfl
@[simp] theorem setHl_halted (v : Word) : (s.setHl v).halted = s.halted := rfl
@[simp] theorem setHl_stopped (v : Word) : (s.setHl v).stopped = s.stopped := rfl
@[simp] theorem setHl_boot (v : Word) : (s.setHl v).boot = s.boot := rfl
@[simp] theorem setHl_mem (v : Word) : (s.setHl v).mem = s.mem := rfl
@[simp] theorem setHl_f (v : Word) : (s.setHl v).f = s.f := by simp [State.f]
@[simp] theorem setHl_cond (v : Word) (cc : Cond) : (s.setHl v).cond cc = s.cond cc := by cases cc <;> simp [State.cond]
@[simp] theorem setHl_read (v : Word) (y : Word) : (s.setHl v).read y = s.read y := by simp [State.read]
@[simp] theorem setHl_pending (v : Word) : (s.setHl v).pending = s.pending := by simp [State.pending, State.ieByte, State.ifByte, State.byteOf]

/-! ### setAf -/

@[simp] theorem setAf_a (v : Word) : (s.setAf v).a = hiByte v := rfl
@[simp] theorem setAf_b (v : Word) : (s.setAf v).b = s.b := rfl
@[simp] theorem setAf_c (v : Word) : (s.setAf v).c = s.c := rfl
@[simp] theorem setAf_d (v : Word) : (s.setAf v).d = s.d := rfl
@[simp] theorem setAf_e (v : Word) : (s.setAf v).e = s.e := rfl
@[simp] theorem setAf_h (v : Word) : (s.setAf v).h = s.h := rfl
@[simp] theorem setAf_l (v : Word) : (s.setAf v).l = s.l := rfl
@[simp] theorem setAf_zf (v : Word) : (s.setAf v).zf = (loByte v).getLsbD 7 := rfl
@[simp] theorem setAf_nf (v : Word) : (s.setAf v).nf = (loByte v).getLsbD 6 := rfl
@[simp] theorem setAf_hf (v : Word) : (s.setAf v).hf = (loByte v).getLsbD 5 := rfl
@[simp] theorem setAf_cf (v : Word) : (s.setAf v).cf = (loByte v).getLsbD 4 := rfl
@[simp] theorem setAf_pc (v : Word) : (s.setAf v).pc = s.pc := rfl
@[simp] theorem setAf_sp (v : Word) : (s.setAf v).sp = s.sp := rfl
@[simp] theorem setAf_ime (v : Word) : (s.setAf v).ime = s.ime := rfl
@[simp] theorem setAf_imePending (v : Word) : (s.setAf v).imePending = s.imePending := rfl
@[simp] theorem setAf_halted (v : Word) : (s.setAf v).halted = s.halted := rfl
@[simp] theorem setAf_stopped (v : Word) : (s.setAf v).stopped = s.stopped := rfl
@[simp] theorem setAf_boot (v : Word) : (s.setAf v).boot = s.boot := rfl
@[simp] theorem setAf_mem (v : Word) : (s.setAf v).mem = s.mem := rfl
@[simp] theorem setAf_read (v : Word) (y : Word) : (s.setAf v).read y = s.read y := by simp [State.read]
@[simp] theorem setAf_pending (v : Word) : (s.setAf v).pending = s.pending := by simp [State.pending, State.ieByte, State.ifByte, State.byteOf]

/-! ### setR16 -/

@[simp] theorem setR16_a (p : Reg16) (v : Word) : (s.setR16 p v).a = s.a := by cases p <;> rfl
@[simp] theorem setR16_zf (p : Reg16) (v : Word) : (s.setR16 p v).zf = s.zf := by cases p <;> rfl
@[simp] theorem setR16_nf (p : Reg16) (v : Word) : (s.setR16 p v).nf = s.nf := by cases p <;> rfl
@[simp] theorem setR16_hf (p : Reg16) (v : Word) : (s.setR16 p v).hf = s.hf := by cases p <;> rfl
@[simp] theorem setR16_cf (p : Reg16) (v : Word) : (s.setR16 p v).cf = s.cf := by cases p <;> rfl
@[simp] theorem setR16_pc (p : Reg16) (v : Word) : (s.setR16 p v).pc = s.pc := by cases p <;> rfl
@[simp] theorem setR16_ime (p : Reg16) (v : Word) : (s.setR16 p v).ime = s.ime := by cases p <;> rfl
@[simp] theorem setR16_imePending (p : Reg16) (v : Word) : (s.setR16 p v).imePending = s.imePending := by cases p <;> rfl
@[simp] theorem setR16_halted (p : Reg16) (v : Word) : (s.setR16 p v).halted = s.halted := by cases p <;> rfl
@[simp] theorem setR16_stopped (p : Reg16) (v : Word) : (s.setR16 p v).stopped = s.stopped := by cases p <;> rfl
@[simp] theorem setR16_boot (p : Reg16) (v : Word) : (s.setR16 p v).boot = s.boot := by cases p <;> rfl
@[simp] theorem setR16_mem (p : Reg16) (v : Word) : (s.setR16 p v).mem = s.mem := by cases p <;> rfl
@[simp] theorem setR16_f (p : Reg16) (v : Word) : (s.setR16 p v).f = s.f := by simp [State.f]
@[simp] theorem setR16_cond (p : Reg16) (v : Word) (cc : Cond) : (s.setR16 p v).cond cc = s.cond cc := by cases cc <;> simp [State.cond]
@[simp] theorem setR16_read (p : Reg16) (v : Word) (y : Word) : (s.setR16 p v).read y = s.read y := by simp [State.read]
@[simp] theorem setR16_pending (p : Reg16) (v : Word) : (s.setR16 p v).pending = s.pending := by simp [State.pending, State.ieByte, State.ifByte, State.byteOf]

/-! ### setStk -/

@[simp] theorem setStk_pc (q : RegStk) (v : Word) : (s.setStk q v).pc = s.pc := by cases q <;> rfl
@[simp] theorem setStk_sp (q : RegStk) (v : Word) : (s.setStk q v).sp = s.sp := by cases q <;> rfl
@[simp] theorem setStk_ime (q : RegStk) (v : Word) : (s.setStk q v).ime = s.ime := by cases q <;> rfl
@[simp] theorem setStk_imePending (q : RegStk) (v : Word) : (s.setStk q v).imePending = s.imePending := by cases q <;> rfl
@[simp] theorem setStk_halted (q : RegStk) (v : Word) : (s.setStk q v).halted = s.halted := by cases q <;> rfl
@[simp] theorem setStk_stopped (q : RegStk) (v : Word) : (s.setStk q v).stopped = s.stopped := by cases q <;> rfl
@[simp] theorem setStk_boot (q : RegStk) (v : Word) : (s.setStk q v).boot = s.boot := by cases q <;> rfl
@[simp] theorem setStk_mem (q : RegStk) (v : Word) : (s.setStk q v).mem = s.mem := by cases q <;> rfl
@[simp] theorem setStk_read (q : RegStk) (v : Word) (y : Word) : (s.setStk q v).read y = s.read y := by simp [State.read]
@[simp] theorem setStk_pending (q : RegStk) (v : Word) : (s.setStk q v).pending = s.pending := by simp [State.pending, State.ieByte, State.ifByte, State.byteOf]

/-! ### advance -/

@[simp] theorem advance_a (n : Word) : (s.advance n).a = s.a := rfl
@[simp] theorem advance_b (n : Word) : (s.advance n).b = s.b := rfl
@[simp] theorem advance_c (n : Word) : (s.advance n).c = s.c := rfl
@[simp] theorem advance_d (n : Word) : (s.advance n).d = s.d := rfl
@[simp] theorem advance_e (n : Word) : (s.advance n).e = s.e := rfl
@[simp] theorem advance_h (n : Word) : (s.advance n).h = s.h := rfl
@[simp] theorem advance_l (n : Word) : (s.advance n).l = s.l := rfl
@[simp] theorem advance_zf (n : Word) : (s.advance n).zf = s.zf := rfl
@[simp] theorem advance_nf (n : Word) : (s.advance n).nf = s.nf := rfl
@[simp] theorem advance_hf (n : Word) : (s.advance n).hf = s.hf := rfl
@[simp] theorem advance_cf (n : Word) : (s.advance n).cf = s.cf := rfl
@[simp] theorem advance_pc (n : Word) : (s.advance n).pc = s.pc + n := rfl
@[simp] theorem advance_sp (n : Word) : (s.advance n).sp = s.sp := rfl
@[simp] theorem advance_ime (n : Word) : (s.advance n).ime = s.ime := rfl
@[simp] theorem advance_imePending (n : Word) : (s.advance n).imePending = s.imePending := rfl
@[simp] theorem advance_halted (n : Word) : (s.advance n).halted = s.halted := rfl
@[simp] theorem advance_stopped (n : Word) : (s.advance n).stopped = s.stopped := rfl
@[simp] theorem advance_boot (n : Word) : (s.advance n).boot = s.boot := rfl
@[simp] theorem advance_mem (n : Word) : (s.advance n).mem = s.mem := rfl
@[simp] theorem advance_r8 (n : Word) (x8 : Reg8) : (s.advance n).r8 x8 = s.r8 x8 := by cases x8 <;> simp [State.r8]
@[simp] theorem advance_bc (n : Word) : (s.advance n).bc = s.bc := by simp [State.bc]
@[simp] theorem advance_de (n : Word) : (s.advance n).de = s.de := by simp [State.de]
@[simp] theorem advance_hl (n : Word) : (s.advance n).hl = s.hl := by simp [State.hl]
@[simp] theorem advance_r16 (n : Word) (p16 : Reg16) : (s.advance n).r16 p16 = s.r16 p16 := by cases p16 <;> simp [State.r16]
@[simp] theorem advance_f (n : Word) : (s.advance n).f = s.f := by simp [State.f]
@[simp] theorem advance_cond (n : Word) (cc : Cond) : (s.advance n).cond cc = s.cond cc := by cases cc <;> simp [State.cond]
@[simp] theorem advance_read (n : Word) (y : Word) : (s.advance n).read y = s.read y := by simp [State.read]
@[simp] theorem advance_pending (n : Word) : (s.advance n).pending = s.pending := by simp [State.pending, State.ieByte, State.ifByte, State.byteOf]

/-! ### jump -/

@[simp] theorem jump_a (target : Word) : (s.jump target).a = s.a := rfl
@[simp] theorem jump_b (target : Word) : (s.jump target).b = s.b := rfl
@[simp] theorem jump_c (target : Word) : (s.jump target).c = s.c := rfl
@[simp] theorem jump_d (target : Word) : (s.jump target).d = s.d := rfl
@[simp] theorem jump_e (target : Word) : (s.jump target).e = s.e := rfl
@[simp] theorem jump_h (target : Word) : (s.jump target).h = s.h := rfl
@[simp] theorem jump_l (target : Word) : (s.jump target).l = s.l := rfl
@[simp] theorem jump_zf (target : Word) : (s.jump target).zf = s.zf := rfl
@[simp] theorem jump_nf (target : Word) : (s.jump target).nf = s.nf := rfl
@[simp] theorem jump_hf (target : Word) : (s.jump target).hf = s.hf := rfl
@[simp] theorem jump_cf (target : Word) : (s.jump target).cf = s.cf := rfl
@[simp] theorem jump_pc (target : Word) : (s.jump target).pc = target := rfl
@[simp] theorem jump_sp (target : Word) : (s.jump target).sp = s.sp := rfl
@[simp] theorem jump_ime (target : Word) : (s.jump target).ime = s.ime := rfl
@[simp] theorem jump_imePending (target : Word) : (s.jump target).imePending = s.imePending := rfl
@[simp] theorem jump_halted (target : Word) : (s.jump target).halted = s.halted := rfl
@[simp] theorem jump_stopped (target : Word) : (s.jump target).stopped = s.stopped := rfl
@[simp] theorem jump_boot (target : Word) : (s.jump target).boot = s.boot := rfl
@[simp] theorem jump_mem (target : Word) : (s.jump target).mem = s.mem := rfl
@[simp] theorem jump_r8 (target : Word) (x8 : Reg8) : (s.jump target).r8 x8 = s.r8 x8 := by cases x8 <;> simp [State.r8]
@[simp] theorem jump_bc (target : Word) : (s.jump target).bc = s.bc := by simp [State.bc]
@[simp] theorem jump_de (target : Word) : (s.jump target).de = s.de := by simp [State.de]
@[simp] theorem jump_hl (target : Word) : (s.jump target).hl = s.hl := by simp [State.hl]
@[simp] theorem jump_r16 (target : Word) (p16 : Reg16) : (s.jump target).r16 p16 = s.r16 p16 := by cases p16 <;> simp [State.r16]
@[simp] theorem jump_f (target : Word) : (s.jump target).f = s.f := by simp [State.f]
@[simp] theorem jump_cond (target : Word) (cc : Cond) : (s.jump target).cond cc = s.cond cc := by cases cc <;> simp [State.cond]
@[simp] theorem jump_read (target : Word) (y : Word) : (s.jump target).read y = s.read y := by simp [State.read]
@[simp] theorem jump_pending (target : Word) : (s.jump target).pending = s.pending := by simp [State.pending, State.ieByte, State.ifByte, State.byteOf]

/-! ### write -/

@[simp] theorem write_a (x : Word) (v : Byte) : (s.write x v).a = s.a := by unfold State.write; split <;> rfl
@[simp] theorem write_b (x : Word) (v : Byte) : (s.write x v).b = s.b := by unfold State.write; split <;> rfl
@[simp] theorem write_c (x : Word) (v : Byte) : (s.write x v).c = s.c := by unfold State.write; split <;> rfl
@[simp] theorem write_d (x : Word) (v : Byte) : (s.write x v).d = s.d := by unfold State.write; split <;> rfl
@[simp] theorem write_e (x : Word) (v : Byte) : (s.write x v).e = s.e := by unfold State.write; split <;> rfl
@[simp] theorem write_h (x : Word) (v : Byte) : (s.write x v).h = s.h := by unfold State.write; split <;> rfl
@[simp] theorem write_l (x : Word) (v : Byte) : (s.write x v).l = s.l := by unfold State.write; split <;> rfl
@[simp] theorem write_zf (x : Word) (v : Byte) : (s.write x v).zf = s.zf := by unfold State.write; split <;> rfl
@[simp] theorem write_nf (x : Word) (v : Byte) : (s.write x v).nf = s.nf := by unfold State.write; split <;> rfl
@[simp] theorem write_hf (x : Word) (v : Byte) : (s.write x v).hf = s.hf := by unfold State.write; split <;> rfl
@[simp] theorem write_cf (x : Word) (v : Byte) : (s.write x v).cf = s.cf := by unfold State.write; split <;> rfl
@[simp] theorem write_pc (x : Word) (v : Byte) : (s.write x v).pc = s.pc := by unfold State.write; split <;> rfl
@[simp] theorem write_sp (x : Word) (v : Byte) : (s.write x v).sp = s.sp := by unfold State.write; split <;> rfl
@[simp] theorem write_ime (x : Word) (v : Byte) : (s.write x v).ime = s.ime := by unfold State.write; split <;> rfl
@[simp] theorem write_imePending (x : Word) (v : Byte) : (s.write x v).imePending = s.imePending := by unfold State.write; split <;> rfl
@[simp] theorem write_halted (x : Word) (v : Byte) : (s.write x v).halted = s.halted := by unfold State.write; split <;> rfl
@[simp] theorem write_stopped (x : Word) (v : Byte) : (s.write x v).stopped = s.stopped := by unfold State.write; split <;> rfl
@[simp] theorem write_boot (x : Word) (v : Byte) : (s.write x v).boot = s.boot := by unfold State.write; split <;> rfl
@[simp] theorem write_r8 (x : Word) (v : Byte) (x8 : Reg8) : (s.write x v).r8 x8 = s.r8 x8 := by cases x8 <;> simp [State.r8]
@[simp] theorem write_bc (x : Word) (v : Byte) : (s.write x v).bc = s.bc := by simp [State.bc]
@[simp] theorem write_de (x : Word) (v : Byte) : (s.write x v).de = s.de := by simp [State.de]
@[simp] theorem write_hl (x : Word) (v : Byte) : (s.write x v).hl = s.hl := by simp [State.hl]
@[simp] theorem write_r16 (x : Word) (v : Byte) (p16 : Reg16) : (s.write x v).r16 p16 = s.r16 p16 := by cases p16 <;> simp [State.r16]
@[simp] theorem write_f (x : Word) (v : Byte) : (s.write x v).f = s.f := by simp [State.f]
@[simp] theorem write_cond (x : Word) (v : Byte) (cc : Cond) : (s.write x v).cond cc = s.cond cc := by cases cc <;> simp [State.cond]

/-! ### writeWord -/

@[simp] theorem writeWord_a (x v : Word) : (s.writeWord x v).a = s.a := by simp [State.writeWord]
@[simp] theorem writeWord_b (x v : Word) : (s.writeWord x v).b = s.b := by simp [State.writeWord]
@[simp] theorem writeWord_c (x v : Word) : (s.writeWord x v).c = s.c := by simp [State.writeWord]
@[simp] theorem writeWord_d (x v : Word) : (s.writeWord x v).d = s.d := by simp [State.writeWord]
@[simp] theorem writeWord_e (x v : Word) : (s.writeWord x v).e = s.e := by simp [State.writeWord]
@[simp] theorem writeWord_h (x v : Word) : (s.writeWord x v).h = s.h := by simp [State.writeWord]
@[simp] theorem writeWord_l (x v : Word) : (s.writeWord x v).l = s.l := by simp [State.writeWord]
@[simp] theorem writeWord_zf (x v : Word) : (s.writeWord x v).zf = s.zf := by simp [State.writeWord]
@[simp] theorem writeWord_nf (x v : Word) : (s.writeWord x v).nf = s.nf := by simp [State.writeWord]
@[simp] theorem writeWord_hf (x v : Word) : (s.writeWord x v).hf = s.hf := by simp [State.writeWord]
@[simp] theorem writeWord_cf (x v : Word) : (s.writeWord x v).cf = s.cf := by simp [State.writeWord]
@[simp] theorem writeWord_pc (x v : Word) : (s.writeWord x v).pc = s.pc := by simp [State.writeWord]
@[simp] theorem writeWord_sp (x v : Word) : (s.writeWord x v).sp = s.sp := by simp [State.writeWord]
@[simp] theorem writeWord_ime (x v : Word) : (s.writeWord x v).ime = s.ime := by simp [State.writeWord]
@[simp] theorem writeWord_imePending (x v : Word) : (s.writeWord x v).imePending = s.imePending := by simp [State.writeWord]
@[simp] theorem writeWord_halted (x v : Word) : (s.writeWord x v).halted = s.halted := by simp [State.writeWord]
@[simp] theorem writeWord_stopped (x v : Word) : (s.writeWord x v).stopped = s.stopped := by simp [State.writeWord]
@[simp] theorem writeWord_boot (x v : Word) : (s.writeWord x v).boot = s.boot := by simp [State.writeWord]
@[simp] theorem writeWord_r8 (x v : Word) (x8 : Reg8) : (s.writeWord x v).r8 x8 = s.r8 x8 := by cases x8 <;> simp [State.r8]
@[simp] theorem writeWord_bc (x v : Word) : (s.writeWord x v).bc = s.bc := by simp [State.bc]
@[simp] theorem writeWord_de (x v : Word) : (s.writeWord x v).de = s.de := by simp [State.de]
@[simp] theorem writeWord_hl (x v : Word) : (s.writeWord x v).hl = s.hl := by simp [State.hl]
@[simp] theorem writeWord_r16 (x v : Word) (p16 : Reg16) : (s.writeWord x v).r16 p16 = s.r16 p16 := by cases p16 <;> simp [State.r16]
@[simp] theorem writeWord_f (x v : Word) : (s.writeWord x v).f = s.f := by simp [State.f]
@[simp] theorem writeWord_cond (x v : Word) (cc : Cond) : (s.writeWord x v).cond cc = s.cond cc := by cases cc <;> simp [State.cond]

/-! ### pushByte -/

@[simp] theorem pushByte_a (v : Byte) : (s.pushByte v).a = s.a := by simp [State.pushByte]
@[simp] theorem pushByte_b (v : Byte) : (s.pushByte v).b = s.b := by simp [State.pushByte]
@[simp] theorem pushByte_c (v : Byte) : (s.pushByte v).c = s.c := by simp [State.pushByte]
@[simp] theorem pushByte_d (v : Byte) : (s.pushByte v).d = s.d := by simp [State.pushByte]
@[simp] theorem pushByte_e (v : Byte) : (s.pushByte v).e = s.e := by simp [State.pushByte]
@[simp] theorem pushByte_h (v : Byte) : (s.pushByte v).h = s.h := by simp [State.pushByte]
@[simp] theorem pushByte_l (v : Byte) : (s.pushByte v).l = s.l := by simp [State.pushByte]
@[simp] theorem pushByte_zf (v : Byte) : (s.pushByte v).zf = s.zf := by simp [State.pushByte]
@[simp] theorem pushByte_nf (v : Byte) : (s.pushByte v).nf = s.nf := by simp [State.pushByte]
@[simp] theorem pushByte_hf (v : Byte) : (s.pushByte v).hf = s.hf := by simp [State.pushByte]
@[simp] theorem pushByte_cf (v : Byte) : (s.pushByte v).cf = s.cf := by simp [State.pushByte]
@[simp] theorem pushByte_pc (v : Byte) : (s.pushByte v).pc = s.pc := by simp [State.pushByte]
@[simp] theorem pushByte_sp (v : Byte) : (s.pushByte v).sp = s.sp - 1 := by simp [State.pushByte]
@[simp] theorem pushByte_ime (v : Byte) : (s.pushByte v).ime = s.ime := by simp [State.pushByte]
@[simp] theorem pushByte_imePending (v : Byte) : (s.pushByte v).imePending = s.imePending := by simp [State.pushByte]
@[simp] theorem pushByte_halted (v : Byte) : (s.pushByte v).halted = s.halted := by simp [State.pushByte]
@[simp] theorem pushByte_stopped (v : Byte) : (s.pushByte v).stopped = s.stopped := by simp [State.pushByte]
@[simp] theorem pushByte_boot (v : Byte) : (s.pushByte v).boot = s.boot := by simp [State.pushByte]
@[simp] theorem pushByte_r8 (v : Byte) (x8 : Reg8) : (s.pushByte v).r8 x8 = s.r8 x8 := by cases x8 <;> simp [State.r8]
@[simp] theorem pushByte_bc (v : Byte) : (s.pushByte v).bc = s.bc := by simp [State.bc]
@[simp] theorem pushByte_de (v : Byte) : (s.pushByte v).de = s.de := by simp [State.de]
@[simp] theorem pushByte_hl (v : Byte) : (s.pushByte v).hl = s.hl := by simp [State.hl]
@[simp] theorem pushByte_f (v : Byte) : (s.pushByte v).f = s.f := by simp [State.f]
@[simp] theorem pushByte_cond (v : Byte) (cc : Cond) : (s.pushByte v).cond cc = s.cond cc := by cases cc <;> simp [State.cond]

/-! ### push16 -/

@[simp] theorem push16_a (v : Word) : (s.push16 v).a = s.a := by simp [State.push16]
@[simp] theorem push16_b (v : Word) : (s.push16 v).b = s.b := by simp [State.push16]
@[simp] theorem push16_c (v : Word) : (s.push16 v).c = s.c := by simp [State.push16]
@[simp] theorem push16_d (v : Word) : (s.push16 v).d = s.d := by simp [State.push16]
@[simp] theorem push16_e (v : Word) : (s.push16 v).e = s.e := by simp [State.push16]
@[simp] theorem push16_h (v : Word) : (s.push16 v).h = s.h := by simp [State.push16]
@[simp] theorem push16_l (v : Word) : (s.push16 v).l = s.l := by simp [State.push16]
@[simp] theorem push16_zf (v : Word) : (s.push16 v).zf = s.zf := by simp [State.push16]
@[simp] theorem push16_nf (v : Word) : (s.push16 v).nf = s.nf := by simp [State.push16]
@[simp] theorem push16_hf (v : Word) : (s.push16 v).hf = s.hf := by simp [State.push16]
@[simp] theorem push16_cf (v : Word) : (s.push16 v).cf = s.cf := by simp [State.push16]
@[simp] theorem push16_pc (v : Word) : (s.push16 v).pc = s.pc := by simp [State.push16]
@[simp] theorem push16_sp (v : Word) : (s.push16 v).sp = s.sp - 1 - 1 := by simp [State.push16]
@[simp] theorem push16_ime (v : Word) : (s.push16 v).ime = s.ime := by simp [State.push16]
@[simp] theorem push16_imePending (v : Word) : (s.push16 v).imePending = s.imePending := by simp [State.push16]
@[simp] theorem push16_halted (v : Word) : (s.push16 v).halted = s.halted := by simp [State.push16]
@[simp] theorem push16_stopped (v : Word) : (s.push16 v).stopped = s.stopped := by simp [State.push16]
@[simp] theorem push16_boot (v : Word) : (s.push16 v).boot = s.boot := by simp [State.push16]
@[simp] theorem push16_r8 (v : Word) (x8 : Reg8) : (s.push16 v).r8 x8 = s.r8 x8 := by cases x8 <;> simp [State.r8]
@[simp] theorem push16_bc (v : Word) : (s.push16 v).bc = s.bc := by simp [State.bc]
@[simp] theorem push16_de (v : Word) : (s.push16 v).de = s.de := by simp [State.de]
@[simp] theorem push16_hl (v : Word) : (s.push16 v).hl = s.hl := by simp [State.hl]
@[simp] theorem push16_f (v : Word) : (s.push16 v).f = s.f := by simp [State.f]
@[simp] theorem push16_cond (v : Word) (cc : Cond) : (s.push16 v).cond cc = s.cond cc := by cases cc <;> simp [State.cond]

/-! ### setIf -/

@[simp] theorem setIf_a (v : Byte) : (s.setIf v).a = s.a := rfl
@[simp] theorem setIf_b (v : Byte) : (s.setIf v).b = s.b := rfl
@[simp] theorem setIf_c (v : Byte) : (s.setIf v).c = s.c := rfl
@[simp] theorem setIf_d (v : Byte) : (s.setIf v).d = s.d := rfl
@[simp] theorem setIf_e (v : Byte) : (s.setIf v).e = s.e := rfl
@[simp] theorem setIf_h (v : Byte) : (s.setIf v).h = s.h := rfl
@[simp] theorem setIf_l (v : Byte) : (s.setIf v).l = s.l := rfl
@[simp] theorem setIf_zf (v : Byte) : (s.setIf v).zf = s.zf := rfl
@[simp] theorem setIf_nf (v : Byte) : (s.setIf v).nf = s.nf := rfl
@[simp] theorem setIf_hf (v : Byte) : (s.setIf v).hf = s.hf := rfl
@[simp] theorem setIf_cf (v : Byte) : (s.setIf v).cf = s.cf := rfl
@[simp] theorem setIf_pc (v : Byte) : (s.setIf v).pc = s.pc := rfl
@[simp] theorem setIf_sp (v : Byte) : (s.setIf v).sp = s.sp := rfl
@[simp] theorem setIf_ime (v : Byte) : (s.setIf v).ime = s.ime := rfl
@[simp] theorem setIf_imePending (v : Byte) : (s.setIf v).imePending = s.imePending := rfl
@[simp] theorem setIf_halted (v : Byte) : (s.setIf v).halted = s.halted := rfl
@[simp] theorem setIf_stopped (v : Byte) : (s.setIf v).stopped = s.stopped := rfl
@[simp] theorem setIf_boot (v : Byte) : (s.setIf v).boot = s.boot := rfl
@[simp] theorem setIf_r8 (v : Byte) (x8 : Reg8) : (s.setIf v).r8 x8 = s.r8 x8 := by cases x8 <;> simp [State.r8]
@[simp] theorem setIf_bc (v : Byte) : (s.setIf v).bc = s.bc := by simp [State.bc]
@[simp] theorem setIf_de (v : Byte) : (s.setIf v).de = s.de := by simp [State.de]
@[simp] theorem setIf_hl (v : Byte) : (s.setIf v).hl = s.hl := by simp [State.hl]
@[simp] theorem setIf_r16 (v : Byte) (p16 : Reg16) : (s.setIf v).r16 p16 = s.r16 p16 := by cases p16 <;> simp [State.r16]
@[simp] theorem setIf_f (v : Byte) : (s.setIf v).f = s.f := by simp [State.f]
@[simp] theorem setIf_cond (v : Byte) (cc : Cond) : (s.setIf v).cond cc = s.cond cc := by cases cc <;> simp [State.cond]

/-! ### Reading a register after writing one -/

theorem r8_setR8 (r r' : Reg8) (v : Byte) :
    (s.setR8 r v).r8 r' = if r' = r then v else s.r8 r' := by
  cases r <;> cases r' <;> rfl

@[simp] theorem setR8_r8_same (r : Reg8) (v : Byte) : (s.setR8 r v).r8 r = v := by
  cases r <;> rfl

@[simp] theorem setR8_a_same (v : Byte) : (s.setR8 .a v).a = v := rfl

theorem setR8_a_eq (v : Byte) : s.setR8 .a v = { s with a := v } := rfl

end Sys2Proof.Machine
end

