-- ==== Sys2Proof/Laws/Ops.lean ====
section
/-! SUPPORT. What each shared operation does, said once: the controller's accesses, the stack, interrupt entry and return, the host's loads, and the invariant each of them keeps. -/

namespace Sys2Proof.Machine

/-! ### The address decoder -/

/-- The gap is the only part of the space without a cell (R61, R69). -/
theorem cellOf_eq_none_iff (a : Word) (boot : Bool) :
    cellOf a boot = none ↔ 0xFEA0 ≤ a.toNat ∧ a.toNat < 0xFF00 := by
  unfold cellOf resolve
  simp only
  repeat' split
  all_goals simp
  all_goals omega

/-- A cell's number is the address itself outside the overlay and the echo. -/
theorem cellOf_eq (a : Word) (boot : Bool) :
    cellOf a boot =
      if a.toNat < 0x4000 then some (if boot then 0x10000 + a.toNat else a.toNat)
      else if 0xE000 ≤ a.toNat ∧ a.toNat < 0xFE00 then some (a.toNat - 0x2000)
      else if 0xFEA0 ≤ a.toNat ∧ a.toNat < 0xFF00 then none
      else some a.toNat := by
  have ha : a.toNat < 65536 := a.isLt
  unfold cellOf resolve
  simp only
  repeat' split
  all_goals simp [Region.cell, Region.base]
  all_goals omega

/-- The cell numbers in use: the bus addresses that have storage, and the boot image past the bus (R35, R61). -/
theorem isCell_iff (k : Nat) :
    isCell k = true ↔ k < 0xE000 ∨ (0xFE00 ≤ k ∧ k < 0xFEA0) ∨ (0xFF00 ≤ k ∧ k < 0x14000) := by
  simp only [isCell, Region.all, List.any_cons, List.any_nil, Bool.or_eq_true, Bool.and_eq_true,
    decide_eq_true_eq]
  simp [Region.base, Region.size]
  omega

/-- An address reaches a cell of some array, or none (R61, R35). -/
theorem cellOf_isCell {a : Word} {boot : Bool} {k : Nat} (h : cellOf a boot = some k) :
    isCell k = true := by
  have ha : a.toNat < 65536 := a.isLt
  rw [isCell_iff]
  rw [cellOf_eq] at h
  repeat' split at h
  all_goals simp at h
  all_goals omega

/-! ### Reads and writes -/

theorem read_of_mem_boot {s t : State} (hm : t.mem = s.mem) (hb : t.boot = s.boot) (a : Word) :
    t.read a = s.read a := by simp [State.read, hm, hb]

/-- A write changes the storage and nothing else (R74). -/
theorem write_eq (s : State) (a : Word) (v : Byte) :
    s.write a v = { s with mem := (s.write a v).mem } := by
  unfold State.write
  split <;> rfl

theorem write_mem (s : State) (a : Word) (v : Byte) :
    (s.write a v).mem = match cellOf a s.boot with
      | some k => s.mem.poke k v
      | none => s.mem := by
  unfold State.write
  split <;> simp_all

/-- Reading after a write: the byte written, at every address that reaches the written cell; elsewhere what was there (R73, R74). -/
theorem read_write {s : State} (hm : s.mem.wf) (a b : Word) (v : Byte) :
    (s.write a v).read b =
      if cellOf b s.boot = cellOf a s.boot ∧ (cellOf b s.boot).isSome then v else s.read b := by
  cases ha : cellOf a s.boot with
  | none =>
    have e : s.write a v = s := by simp [State.write, ha]
    rw [e]
    cases hb : cellOf b s.boot <;> simp
  | some k =>
    cases hb : cellOf b s.boot with
    | none => simp [State.read, hb]
    | some j =>
      simp [State.read, State.write, ha, hb, Memory.peek_poke hm.1]

/-- A write to another cell leaves a byte alone, in every state. -/
theorem read_write_other {s : State} (hm : s.mem.wf) {a b : Word} {v : Byte}
    (h : cellOf b s.boot ≠ cellOf a s.boot ∨ cellOf b s.boot = none) :
    (s.write a v).read b = s.read b := by
  rw [read_write hm]
  split
  · rename_i hc
    rcases h with h | h
    · exact absurd hc.1 h
    · simp [h] at hc
  · rfl

theorem write_wf {s : State} (hs : s.wf) (a : Word) (v : Byte) : (s.write a v).wf := by
  constructor
  · rw [write_mem]
    split
    · exact Memory.poke_wf hs.1 _ _
    · exact hs.1
  · intro x hx
    rw [write_mem] at hx
    split at hx
    · rename_i k hk
      rcases Memory.mem_poke hx with ⟨rfl, -⟩ | hx
      · exact cellOf_isCell hk
      · exact hs.2 x hx
    · exact hs.2 x hx

theorem writeWord_wf {s : State} (hs : s.wf) (a v : Word) : (s.writeWord a v).wf :=
  write_wf (write_wf hs _ _) _ _

theorem wf_of_mem {s t : State} (h : t.mem = s.mem) (hs : s.wf) : t.wf := by
  unfold State.wf; rw [h]; exact hs

/-! ### The stack -/

/-- `Push16`: the two bytes at SP - 1 and SP - 2, SP moved below them, nothing else (R170). -/
theorem push16_eq (s : State) (v : Word) :
    s.push16 v =
      { (s.write (s.sp - 1) (hiByte v)).write (s.sp - 1 - 1) (loByte v) with
        sp := s.sp - 1 - 1 } := by
  simp only [State.push16, State.pushByte]
  rw [write_eq { s with sp := s.sp - 1 }]
  unfold State.write
  simp only
  repeat' split
  all_goals simp_all

theorem push16_wf {s : State} (hs : s.wf) (v : Word) : (s.push16 v).wf := by
  rw [push16_eq]
  exact wf_of_mem (t := { (s.write _ _).write _ _ with sp := _ }) rfl
    (write_wf (write_wf hs _ _) _ _)

/-- `Pop16`: the word at SP, SP moved past it, nothing else (R171). -/
theorem pop16_eq (s : State) :
    s.pop16 = (joinBytes (s.read (s.sp + 1)) (s.read s.sp), { s with sp := s.sp + 2 }) := rfl

/-- A return: PC from the stack, SP past it, nothing else (R297). -/
theorem returnFromCall_eq (s : State) :
    s.returnFromCall =
      { s with sp := s.sp + 2, pc := joinBytes (s.read (s.sp + 1)) (s.read s.sp) } := rfl

/-! ### Interrupts -/

theorem setIf_wf {s : State} (hs : s.wf) (v : Byte) : (s.setIf v).wf := by
  constructor
  · exact Memory.poke_wf hs.1 _ _
  · intro x hx
    rcases Memory.mem_poke hx with ⟨rfl, -⟩ | hx
    · exact (isCell_iff 0xFF0F).mpr (by omega)
    · exact hs.2 x hx

/-- Interrupt entry, as one state (R349): the IF bit, the latches, the pushed PC, the vector. -/
theorem interruptEntry_eq (s : State) :
    s.interruptEntry =
      { (((s.setIf (clearBit s.ifByte (lowestRequest s.pending))).write (s.sp - 1)
            (hiByte s.pc)).write (s.sp - 1 - 1) (loByte s.pc)) with
        ime := false, imePending := false, halted := false, sp := s.sp - 1 - 1,
        pc := vector (lowestRequest s.pending) } := by
  simp only [State.interruptEntry, push16_eq, State.jump, State.setIf]
  unfold State.write
  simp only
  repeat' split
  all_goals simp_all

theorem interruptEntry_wf {s : State} (hs : s.wf) : s.interruptEntry.wf := by
  rw [interruptEntry_eq]
  exact wf_of_mem rfl (write_wf (write_wf (setIf_wf hs _) _ _) _ _)

/-! ### The host's operations -/

theorem loadRegion_wf {s : State} (hs : s.wf) (r : Region) (bytes : List Byte) :
    (s.loadRegion r bytes).1.wf := by
  constructor
  · exact Memory.pokeRun_wf hs.1 _ _
  · intro x hx
    rcases Memory.mem_pokeRun hx with h | h
    · have hl : (bytes.take r.size).length ≤ r.size := by simp
      simp only [isCell, List.any_eq_true]
      refine ⟨r, by cases r <;> decide, ?_⟩
      simp; omega
    · exact hs.2 x h

/-- A load writes the region's first bytes and leaves every other cell alone (R82, R83). -/
theorem loadRegion_peek {s : State} (hs : s.mem.wf) (r : Region) (bytes : List Byte) (k : Nat) :
    (s.loadRegion r bytes).1.mem.peek k =
      if r.base ≤ k then (bytes.take r.size).getD (k - r.base) (s.mem.peek k)
      else s.mem.peek k :=
  Memory.peek_pokeRun hs _ _ _

end Sys2Proof.Machine
end

