-- ==== Sys2Proof/Laws/Exec.lean ====
section
/-! SUPPORT. exec in terms of the forms: one equation from which every claim about an instruction starts. -/

namespace Sys2Proof.Machine

/-- The rule of a form, as an operation on states. -/
def runForm : Form → State → State
  | .ldRR dst src, s => runLdRR dst src s
  | .ldRN dst n, s => runLdRN dst n s
  | .ldRAtHl dst, s => runLdRAtHl dst s
  | .ldAtHlR src, s => runLdAtHlR src s
  | .ldAtHlN n, s => runLdAtHlN n s
  | .ldAAtBc, s => runLdAAtBc s
  | .ldAAtDe, s => runLdAAtDe s
  | .ldAtBcA, s => runLdAtBcA s
  | .ldAtDeA, s => runLdAtDeA s
  | .ldAAtNn nn, s => runLdAAtNn nn s
  | .ldAtNnA nn, s => runLdAtNnA nn s
  | .ldhAAtC, s => runLdhAAtC s
  | .ldhAtCA, s => runLdhAtCA s
  | .ldhAAtN n, s => runLdhAAtN n s
  | .ldhAtNA n, s => runLdhAtNA n s
  | .ldAtHlIncA, s => runLdAtHlIncA s
  | .ldAtHlDecA, s => runLdAtHlDecA s
  | .ldAAtHlInc, s => runLdAAtHlInc s
  | .ldAAtHlDec, s => runLdAAtHlDec s
  | .ldRrNn p nn, s => runLdRrNn p nn s
  | .ldAtNnSp nn, s => runLdAtNnSp nn s
  | .ldSpHl, s => runLdSpHl s
  | .push q, s => runPush q s
  | .pop q, s => runPop q s
  | .aluR op r, s => runAluR op r s
  | .aluAtHl op, s => runAluAtHl op s
  | .aluN op n, s => runAluN op n s
  | .incR r, s => runIncR r s
  | .incAtHl, s => runIncAtHl s
  | .decR r, s => runDecR r s
  | .decAtHl, s => runDecAtHl s
  | .daa, s => runDaa s
  | .cpl, s => runCpl s
  | .scf, s => runScf s
  | .ccf, s => runCcf s
  | .addHlRr p, s => runAddHlRr p s
  | .incRr p, s => runIncRr p s
  | .decRr p, s => runDecRr p s
  | .addSpE e, s => runAddSpE e s
  | .ldHlSpE e, s => runLdHlSpE e s
  | .rlca, s => runRlca s
  | .rrca, s => runRrca s
  | .rla, s => runRla s
  | .rra, s => runRra s
  | .shiftR op r, s => runShiftR op r s
  | .shiftAtHl op, s => runShiftAtHl op s
  | .bitR k r, s => runBitR k r s
  | .bitAtHl k, s => runBitAtHl k s
  | .resR k r, s => runResR k r s
  | .resAtHl k, s => runResAtHl k s
  | .setR k r, s => runSetR k r s
  | .setAtHl k, s => runSetAtHl k s
  | .jpNn nn, s => runJpNn nn s
  | .jpCcNn cc nn, s => runJpCcNn cc nn s
  | .jpHl, s => runJpHl s
  | .jrE e, s => runJrE e s
  | .jrCcE cc e, s => runJrCcE cc e s
  | .callNn nn, s => runCallNn nn s
  | .callCcNn cc nn, s => runCallCcNn cc nn s
  | .ret, s => runRet s
  | .retCc cc, s => runRetCc cc s
  | .reti, s => runReti s
  | .rst t, s => runRst t s
  | .nop, s => runNop s
  | .halt, s => runHalt s
  | .stop x, s => runStop x s
  | .di, s => runDi s
  | .ei, s => runEi s

/-- Every instruction completes, and runs the rule of its form. -/
theorem exec_eq_runForm (i : Instr) (s : State) : exec i s = .next (runForm i.form s) := by
  cases i <;> rfl

theorem exec_of_form {i : Instr} {f : Form} (h : i.form = f) (s : State) :
    exec i s = .next (runForm f s) := by
  rw [exec_eq_runForm, h]

/-- The DI test of the EI delay is a test of the form (R327). -/
theorem isDi_iff (i : Instr) : isDi i = true ↔ i.form = .di := by
  simp [isDi]

theorem form_eq_di_iff (i : Instr) : i.form = .di ↔ i = .di := by
  constructor
  · intro h
    cases i <;> first | rfl | cases h
  · rintro rfl; rfl

end Sys2Proof.Machine
end

