-- ==== Sys2Proof/Laws/Frame.lean ====
section
/-! SUPPORT. What the rule of a form does to the storage, said once: it stores nothing, one byte or two, at the addresses of Form.stores. -/

namespace Sys2Proof.Machine

/-- The storage after a form that stores the bytes `v` at the addresses `w`, in order. -/
inductive StoreCase (s : State) (m : Memory) : List Word → Prop where
  | none (h : m = s.mem) : StoreCase s m []
  | one (w : Word) (v : Byte) (h : m = (s.write w v).mem) : StoreCase s m [w]
  | two (w w' : Word) (v v' : Byte) (h : m = ((s.write w v).write w' v').mem) :
      StoreCase s m [w, w']

/-- A push stores two bytes. -/
theorem push16_storeCase (s : State) (v : Word) :
    StoreCase s (s.push16 v).mem [s.sp - 1, s.sp - 1 - 1] :=
  .two _ _ (hiByte v) (loByte v) (by rw [push16_eq])

/-- An ALU operation stores nothing. -/
@[simp] theorem applyAlu_mem (op : AluOp) (v : Byte) (s : State) :
    (applyAlu op v s).mem = s.mem := by cases op <;> rfl

/-- The stores of a form are those of Form.stores. -/
theorem runForm_storeCase (f : Form) (s : State) :
    StoreCase s (runForm f s).mem (f.stores s) := by
  cases f with
  | ldAtHlR r => exact .one _ (s.r8 r) (by simp [runForm, runLdAtHlR, State.advance])
  | ldAtHlN n => exact .one _ n (by simp [runForm, runLdAtHlN, State.advance])
  | ldAtBcA => exact .one _ s.a (by simp [runForm, runLdAtBcA, storeA, State.advance])
  | ldAtDeA => exact .one _ s.a (by simp [runForm, runLdAtDeA, storeA, State.advance])
  | ldAtNnA nn => exact .one _ s.a (by simp [runForm, runLdAtNnA, storeA, State.advance])
  | ldhAtCA => exact .one _ s.a (by simp [runForm, runLdhAtCA, storeA, State.advance])
  | ldhAtNA n => exact .one _ s.a (by simp [runForm, runLdhAtNA, storeA, State.advance])
  | ldAtHlIncA => exact .one _ s.a (by simp [runForm, runLdAtHlIncA, State.advance])
  | ldAtHlDecA => exact .one _ s.a (by simp [runForm, runLdAtHlDecA, State.advance])
  | ldAtNnSp nn => exact .two _ _ (loByte s.sp) (hiByte s.sp) (by simp [runForm, runLdAtNnSp, State.writeWord, State.advance])
  | push q =>
    simp only [runForm, runPush, State.advance, Form.stores]
    exact push16_storeCase s (s.stk q)
  | incAtHl => exact .one _ (inc8 (s.read s.hl)).1 (by simp [runForm, runIncAtHl, State.advance])
  | decAtHl => exact .one _ (dec8 (s.read s.hl)).1 (by simp [runForm, runDecAtHl, State.advance])
  | shiftAtHl op => exact .one _ (shiftResult op (s.read s.hl) s.cf).res (by simp [runForm, runShiftAtHl, State.advance])
  | resAtHl k => exact .one _ (clearBit (s.read s.hl) k) (by simp [runForm, runResAtHl, State.advance])
  | setAtHl k => exact .one _ (setBit (s.read s.hl) k) (by simp [runForm, runSetAtHl, State.advance])
  | callNn nn =>
    simp only [runForm, runCallNn, State.jump, Form.stores]
    exact push16_storeCase s (s.pc + 3)
  | callCcNn cc nn =>
    simp only [runForm, runCallCcNn, runCallNn, Form.stores]
    split
    · simp only [State.jump]
      exact push16_storeCase s (s.pc + 3)
    · exact .none rfl
  | rst t =>
    simp only [runForm, runRst, State.jump, Form.stores]
    exact push16_storeCase s (s.pc + 1)
  | ldRR dst src => exact .none (by simp [runForm, runLdRR, State.advance])
  | ldRN dst n => exact .none (by simp [runForm, runLdRN, State.advance])
  | ldRAtHl dst => exact .none (by simp [runForm, runLdRAtHl, State.advance])
  | ldRrNn p nn => exact .none (by simp [runForm, runLdRrNn, State.advance])
  | pop q => exact .none (by cases q <;> rfl)
  | aluR op r => exact .none (by simp [runForm, runAluR, State.advance])
  | aluAtHl op => exact .none (by simp [runForm, runAluAtHl, State.advance])
  | aluN op n => exact .none (by simp [runForm, runAluN, State.advance])
  | incR r => exact .none (by simp [runForm, runIncR, State.advance])
  | decR r => exact .none (by simp [runForm, runDecR, State.advance])
  | incRr p => exact .none (by simp [runForm, runIncRr, State.advance])
  | decRr p => exact .none (by simp [runForm, runDecRr, State.advance])
  | shiftR op r => exact .none (by simp [runForm, runShiftR, State.advance])
  | resR k r => exact .none (by simp [runForm, runResR, State.advance])
  | setR k r => exact .none (by simp [runForm, runSetR, State.advance])
  | jpCcNn cc nn => exact .none (by simp only [runForm, runJpCcNn]; split <;> rfl)
  | jrCcE cc e => exact .none (by simp only [runForm, runJrCcE]; split <;> rfl)
  | retCc cc => exact .none (by simp only [runForm, runRetCc]; split <;> rfl)
  | halt => exact .none (by simp only [runForm, runHalt]; split <;> rfl)
  | ldAAtBc => exact .none rfl
  | ldAAtDe => exact .none rfl
  | ldAAtNn nn => exact .none rfl
  | ldhAAtC => exact .none rfl
  | ldhAAtN n => exact .none rfl
  | ldAAtHlInc => exact .none rfl
  | ldAAtHlDec => exact .none rfl
  | ldSpHl => exact .none rfl
  | daa => exact .none rfl
  | cpl => exact .none rfl
  | scf => exact .none rfl
  | ccf => exact .none rfl
  | addHlRr p => exact .none rfl
  | addSpE e => exact .none rfl
  | ldHlSpE e => exact .none rfl
  | rlca => exact .none rfl
  | rrca => exact .none rfl
  | rla => exact .none rfl
  | rra => exact .none rfl
  | bitR k r => exact .none rfl
  | bitAtHl k => exact .none rfl
  | jpNn nn => exact .none rfl
  | jpHl => exact .none rfl
  | jrE e => exact .none rfl
  | ret => exact .none rfl
  | reti => exact .none rfl
  | nop => exact .none rfl
  | stop x => exact .none rfl
  | di => exact .none rfl
  | ei => exact .none rfl

/-- A form keeps canonical storage inside the nine arrays. -/
theorem runForm_wf (f : Form) {s : State} (hs : s.wf) : (runForm f s).wf := by
  have h := runForm_storeCase f s
  generalize f.stores s = l at h
  cases h with
  | none h => exact wf_of_mem h hs
  | one w v h => exact wf_of_mem h (write_wf hs _ _)
  | two w w' v v' h => exact wf_of_mem h (write_wf (write_wf hs _ _) _ _)

/-- A write leaves every cell but the one it reaches. -/
theorem peek_write_other {s : State} (hw : s.mem.wf) {a : Word} {v : Byte} {k : Nat}
    (h : cellOf a s.boot ≠ some k) : (s.write a v).mem.peek k = s.mem.peek k := by
  rw [write_mem]
  split
  · rename_i j hj
    rw [hj] at h
    rw [Memory.peek_poke hw.1, if_neg fun e => h (by rw [e])]
  · rfl

end Sys2Proof.Machine
end

