-- ==== Sys2Proof/Laws/Step.lean ====
section
/-! SUPPORT. Everything a step can do, said once: one case for each event of R100, in the order of R357. -/

namespace Sys2Proof.Machine

/-- A running step on a decoded instruction runs the rule of its form and then the EI delay (R100, R327). -/
theorem stepWith_of_fetch {cfg : Config} {s : State} {i : Instr} (hr : s.running cfg)
    (hf : s.fetch cfg = .instr i) :
    stepWith cfg s = .next ((runForm i.form s).eiDelay s.imePending i) := by
  obtain ⟨h1, h2, h3⟩ := hr
  simp [stepWith, dispatchStep, h1, h2, h3, hf, exec_eq_runForm]

/-- A running step on an absent opcode is the fault that names it (R102 to R104, R341). -/
theorem stepWith_of_absent {cfg : Config} {s : State} {b : Byte} {x : Option Byte}
    (hr : s.running cfg) (hf : s.fetch cfg = .unimplemented b x) :
    stepWith cfg s = .fault (.unimplementedOpcode b x) := by
  obtain ⟨h1, h2, h3⟩ := hr
  simp [stepWith, dispatchStep, h1, h2, h3, hf]

/-- The five outcomes of a step. -/
inductive StepCase (cfg : Config) (s : State) : Result → Prop where
  | stopped (h : s.stopped = true) : StepCase cfg s (.next s)
  | interrupt (h : s.stopped = false) (ht : s.takesInterrupt cfg = true) :
      StepCase cfg s (.next s.interruptEntry)
  | halted (h : s.stopped = false) (ht : s.takesInterrupt cfg = false) (hh : s.halted = true) :
      StepCase cfg s (.next s.haltedStep)
  | routine (i : Instr) (hr : s.running cfg) (hf : s.fetch cfg = .instr i) :
      StepCase cfg s (.next ((runForm i.form s).eiDelay s.imePending i))
  | absent (b : Byte) (x : Option Byte) (hr : s.running cfg)
      (hf : s.fetch cfg = .unimplemented b x) :
      StepCase cfg s (.fault (.unimplementedOpcode b x))

/-- Every step is one of the five. -/
theorem stepWith_cases (cfg : Config) (s : State) : StepCase cfg s (stepWith cfg s) := by
  cases h1 : s.stopped with
  | true =>
    have e : stepWith cfg s = .next s := by simp [stepWith, h1]
    rw [e]; exact .stopped h1
  | false =>
    cases h2 : s.takesInterrupt cfg with
    | true =>
      have e : stepWith cfg s = .next s.interruptEntry := by simp [stepWith, h1, h2]
      rw [e]; exact .interrupt h1 h2
    | false =>
      cases h3 : s.halted with
      | true =>
        have e : stepWith cfg s = .next s.haltedStep := by simp [stepWith, h1, h2, h3]
        rw [e]; exact .halted h1 h2 h3
      | false =>
        have hr : s.running cfg := ⟨h1, h3, h2⟩
        cases hf : s.fetch cfg with
        | instr i => rw [stepWith_of_fetch hr hf]; exact .routine i hr hf
        | unimplemented b x => rw [stepWith_of_absent hr hf]; exact .absent b x hr hf

/-- The EI delay touches the two interrupt-enable latches only (R327). -/
theorem eiDelay_eq (s : State) (p : Bool) (i : Instr) :
    s.eiDelay p i =
      { s with
        ime := if p && !isDi i then true else s.ime
        imePending := if p && !isDi i then false else s.imePending } := by
  unfold State.eiDelay
  split <;> rfl

/-- The halted step touches HALTED only (R322). -/
theorem haltedStep_eq (s : State) :
    s.haltedStep = { s with halted := s.halted && s.pending == 0 } := by
  unfold State.haltedStep
  cases h : s.pending == 0 <;> simp only [bne, h, Bool.not_true, Bool.not_false, if_true,
    Bool.and_true, Bool.and_false, Bool.false_eq_true, if_false]

end Sys2Proof.Machine
end

