-- ==== Sys2Proof/Tests/Slice0.lean ====
section
/-! SUPPORT. Tests. The words of the decoding tables are the "encoding" column of spec/opcode_table.json with sample immediates; the expected results of the one-step tests are the "Example" and "Corner cases" lines of the rules and the vectors of 95_test_vectors.md. The witnesses meet the hypotheses of the statements in Certificates/Slice0/Obligations.lean. -/

namespace Sys2Proof.Tests

open Sys2Proof.Machine

set_option Elab.async false

/-! ### Decoding: every row's word -/

/-- The first byte, two bytes after it, and the instruction they must decode to and be encoded by. -/
def rowOk (x : Byte × Byte × Byte × Instr) : Bool :=
  decide (decode standardConfig x.1 x.2.1 x.2.2.1 = .instr x.2.2.2) &&
    (encode x.2.2.2).isPrefixOf [x.1, x.2.1, x.2.2.1]

/-- Primary rows 00 to 0F. -/
theorem test_decode_0x : List.all [
    (0b00000000, 0x00, 0x00, .nop),
    (0b00000001, 0x34, 0x12, .ld_BC_nn 0x1234),
    (0b00000010, 0x00, 0x00, .ld_atBC_A),
    (0b00000011, 0x00, 0x00, .inc_BC),
    (0b00000100, 0x00, 0x00, .inc_B),
    (0b00000101, 0x00, 0x00, .dec_B),
    (0b00000110, 0xA5, 0x00, .ld_B_n 0xA5),
    (0b00000111, 0x00, 0x00, .rlca),
    (0b00001000, 0x34, 0x12, .ld_atnn_SP 0x1234),
    (0b00001001, 0x00, 0x00, .add_HL_BC),
    (0b00001010, 0x00, 0x00, .ld_A_atBC),
    (0b00001011, 0x00, 0x00, .dec_BC),
    (0b00001100, 0x00, 0x00, .inc_C),
    (0b00001101, 0x00, 0x00, .dec_C),
    (0b00001110, 0xA5, 0x00, .ld_C_n 0xA5),
    (0b00001111, 0x00, 0x00, .rrca)] rowOk = true := by decide +kernel

/-- Primary rows 10 to 1F. -/
theorem test_decode_1x : List.all [
    (0b00010000, 0xA5, 0x00, .stop 0xA5),
    (0b00010001, 0x34, 0x12, .ld_DE_nn 0x1234),
    (0b00010010, 0x00, 0x00, .ld_atDE_A),
    (0b00010011, 0x00, 0x00, .inc_DE),
    (0b00010100, 0x00, 0x00, .inc_D),
    (0b00010101, 0x00, 0x00, .dec_D),
    (0b00010110, 0xA5, 0x00, .ld_D_n 0xA5),
    (0b00010111, 0x00, 0x00, .rla),
    (0b00011000, 0xA5, 0x00, .jr_e 0xA5),
    (0b00011001, 0x00, 0x00, .add_HL_DE),
    (0b00011010, 0x00, 0x00, .ld_A_atDE),
    (0b00011011, 0x00, 0x00, .dec_DE),
    (0b00011100, 0x00, 0x00, .inc_E),
    (0b00011101, 0x00, 0x00, .dec_E),
    (0b00011110, 0xA5, 0x00, .ld_E_n 0xA5),
    (0b00011111, 0x00, 0x00, .rra)] rowOk = true := by decide +kernel

/-- Primary rows 20 to 2F. -/
theorem test_decode_2x : List.all [
    (0b00100000, 0xA5, 0x00, .jr_NZ_e 0xA5),
    (0b00100001, 0x34, 0x12, .ld_HL_nn 0x1234),
    (0b00100010, 0x00, 0x00, .ld_atHLinc_A),
    (0b00100011, 0x00, 0x00, .inc_HL),
    (0b00100100, 0x00, 0x00, .inc_H),
    (0b00100101, 0x00, 0x00, .dec_H),
    (0b00100110, 0xA5, 0x00, .ld_H_n 0xA5),
    (0b00100111, 0x00, 0x00, .daa),
    (0b00101000, 0xA5, 0x00, .jr_Z_e 0xA5),
    (0b00101001, 0x00, 0x00, .add_HL_HL),
    (0b00101010, 0x00, 0x00, .ld_A_atHLinc),
    (0b00101011, 0x00, 0x00, .dec_HL),
    (0b00101100, 0x00, 0x00, .inc_L),
    (0b00101101, 0x00, 0x00, .dec_L),
    (0b00101110, 0xA5, 0x00, .ld_L_n 0xA5),
    (0b00101111, 0x00, 0x00, .cpl)] rowOk = true := by decide +kernel

/-- Primary rows 30 to 3F. -/
theorem test_decode_3x : List.all [
    (0b00110000, 0xA5, 0x00, .jr_NC_e 0xA5),
    (0b00110001, 0x34, 0x12, .ld_SP_nn 0x1234),
    (0b00110010, 0x00, 0x00, .ld_atHLdec_A),
    (0b00110011, 0x00, 0x00, .inc_SP),
    (0b00110100, 0x00, 0x00, .inc_atHL),
    (0b00110101, 0x00, 0x00, .dec_atHL),
    (0b00110110, 0xA5, 0x00, .ld_atHL_n 0xA5),
    (0b00110111, 0x00, 0x00, .scf),
    (0b00111000, 0xA5, 0x00, .jr_C_e 0xA5),
    (0b00111001, 0x00, 0x00, .add_HL_SP),
    (0b00111010, 0x00, 0x00, .ld_A_atHLdec),
    (0b00111011, 0x00, 0x00, .dec_SP),
    (0b00111100, 0x00, 0x00, .inc_A),
    (0b00111101, 0x00, 0x00, .dec_A),
    (0b00111110, 0xA5, 0x00, .ld_A_n 0xA5),
    (0b00111111, 0x00, 0x00, .ccf)] rowOk = true := by decide +kernel

/-- Primary rows 40 to 4F. -/
theorem test_decode_4x : List.all [
    (0b01000000, 0x00, 0x00, .ld_B_B),
    (0b01000001, 0x00, 0x00, .ld_B_C),
    (0b01000010, 0x00, 0x00, .ld_B_D),
    (0b01000011, 0x00, 0x00, .ld_B_E),
    (0b01000100, 0x00, 0x00, .ld_B_H),
    (0b01000101, 0x00, 0x00, .ld_B_L),
    (0b01000110, 0x00, 0x00, .ld_B_atHL),
    (0b01000111, 0x00, 0x00, .ld_B_A),
    (0b01001000, 0x00, 0x00, .ld_C_B),
    (0b01001001, 0x00, 0x00, .ld_C_C),
    (0b01001010, 0x00, 0x00, .ld_C_D),
    (0b01001011, 0x00, 0x00, .ld_C_E),
    (0b01001100, 0x00, 0x00, .ld_C_H),
    (0b01001101, 0x00, 0x00, .ld_C_L),
    (0b01001110, 0x00, 0x00, .ld_C_atHL),
    (0b01001111, 0x00, 0x00, .ld_C_A)] rowOk = true := by decide +kernel

/-- Primary rows 50 to 5F. -/
theorem test_decode_5x : List.all [
    (0b01010000, 0x00, 0x00, .ld_D_B),
    (0b01010001, 0x00, 0x00, .ld_D_C),
    (0b01010010, 0x00, 0x00, .ld_D_D),
    (0b01010011, 0x00, 0x00, .ld_D_E),
    (0b01010100, 0x00, 0x00, .ld_D_H),
    (0b01010101, 0x00, 0x00, .ld_D_L),
    (0b01010110, 0x00, 0x00, .ld_D_atHL),
    (0b01010111, 0x00, 0x00, .ld_D_A),
    (0b01011000, 0x00, 0x00, .ld_E_B),
    (0b01011001, 0x00, 0x00, .ld_E_C),
    (0b01011010, 0x00, 0x00, .ld_E_D),
    (0b01011011, 0x00, 0x00, .ld_E_E),
    (0b01011100, 0x00, 0x00, .ld_E_H),
    (0b01011101, 0x00, 0x00, .ld_E_L),
    (0b01011110, 0x00, 0x00, .ld_E_atHL),
    (0b01011111, 0x00, 0x00, .ld_E_A)] rowOk = true := by decide +kernel

/-- Primary rows 60 to 6F. -/
theorem test_decode_6x : List.all [
    (0b01100000, 0x00, 0x00, .ld_H_B),
    (0b01100001, 0x00, 0x00, .ld_H_C),
    (0b01100010, 0x00, 0x00, .ld_H_D),
    (0b01100011, 0x00, 0x00, .ld_H_E),
    (0b01100100, 0x00, 0x00, .ld_H_H),
    (0b01100101, 0x00, 0x00, .ld_H_L),
    (0b01100110, 0x00, 0x00, .ld_H_atHL),
    (0b01100111, 0x00, 0x00, .ld_H_A),
    (0b01101000, 0x00, 0x00, .ld_L_B),
    (0b01101001, 0x00, 0x00, .ld_L_C),
    (0b01101010, 0x00, 0x00, .ld_L_D),
    (0b01101011, 0x00, 0x00, .ld_L_E),
    (0b01101100, 0x00, 0x00, .ld_L_H),
    (0b01101101, 0x00, 0x00, .ld_L_L),
    (0b01101110, 0x00, 0x00, .ld_L_atHL),
    (0b01101111, 0x00, 0x00, .ld_L_A)] rowOk = true := by decide +kernel

/-- Primary rows 70 to 7F. -/
theorem test_decode_7x : List.all [
    (0b01110000, 0x00, 0x00, .ld_atHL_B),
    (0b01110001, 0x00, 0x00, .ld_atHL_C),
    (0b01110010, 0x00, 0x00, .ld_atHL_D),
    (0b01110011, 0x00, 0x00, .ld_atHL_E),
    (0b01110100, 0x00, 0x00, .ld_atHL_H),
    (0b01110101, 0x00, 0x00, .ld_atHL_L),
    (0b01110110, 0x00, 0x00, .halt),
    (0b01110111, 0x00, 0x00, .ld_atHL_A),
    (0b01111000, 0x00, 0x00, .ld_A_B),
    (0b01111001, 0x00, 0x00, .ld_A_C),
    (0b01111010, 0x00, 0x00, .ld_A_D),
    (0b01111011, 0x00, 0x00, .ld_A_E),
    (0b01111100, 0x00, 0x00, .ld_A_H),
    (0b01111101, 0x00, 0x00, .ld_A_L),
    (0b01111110, 0x00, 0x00, .ld_A_atHL),
    (0b01111111, 0x00, 0x00, .ld_A_A)] rowOk = true := by decide +kernel

/-- Primary rows 80 to 8F. -/
theorem test_decode_8x : List.all [
    (0b10000000, 0x00, 0x00, .add_A_B),
    (0b10000001, 0x00, 0x00, .add_A_C),
    (0b10000010, 0x00, 0x00, .add_A_D),
    (0b10000011, 0x00, 0x00, .add_A_E),
    (0b10000100, 0x00, 0x00, .add_A_H),
    (0b10000101, 0x00, 0x00, .add_A_L),
    (0b10000110, 0x00, 0x00, .add_A_atHL),
    (0b10000111, 0x00, 0x00, .add_A_A),
    (0b10001000, 0x00, 0x00, .adc_A_B),
    (0b10001001, 0x00, 0x00, .adc_A_C),
    (0b10001010, 0x00, 0x00, .adc_A_D),
    (0b10001011, 0x00, 0x00, .adc_A_E),
    (0b10001100, 0x00, 0x00, .adc_A_H),
    (0b10001101, 0x00, 0x00, .adc_A_L),
    (0b10001110, 0x00, 0x00, .adc_A_atHL),
    (0b10001111, 0x00, 0x00, .adc_A_A)] rowOk = true := by decide +kernel

/-- Primary rows 90 to 9F. -/
theorem test_decode_9x : List.all [
    (0b10010000, 0x00, 0x00, .sub_B),
    (0b10010001, 0x00, 0x00, .sub_C),
    (0b10010010, 0x00, 0x00, .sub_D),
    (0b10010011, 0x00, 0x00, .sub_E),
    (0b10010100, 0x00, 0x00, .sub_H),
    (0b10010101, 0x00, 0x00, .sub_L),
    (0b10010110, 0x00, 0x00, .sub_atHL),
    (0b10010111, 0x00, 0x00, .sub_A),
    (0b10011000, 0x00, 0x00, .sbc_A_B),
    (0b10011001, 0x00, 0x00, .sbc_A_C),
    (0b10011010, 0x00, 0x00, .sbc_A_D),
    (0b10011011, 0x00, 0x00, .sbc_A_E),
    (0b10011100, 0x00, 0x00, .sbc_A_H),
    (0b10011101, 0x00, 0x00, .sbc_A_L),
    (0b10011110, 0x00, 0x00, .sbc_A_atHL),
    (0b10011111, 0x00, 0x00, .sbc_A_A)] rowOk = true := by decide +kernel

/-- Primary rows A0 to AF. -/
theorem test_decode_Ax : List.all [
    (0b10100000, 0x00, 0x00, .and_B),
    (0b10100001, 0x00, 0x00, .and_C),
    (0b10100010, 0x00, 0x00, .and_D),
    (0b10100011, 0x00, 0x00, .and_E),
    (0b10100100, 0x00, 0x00, .and_H),
    (0b10100101, 0x00, 0x00, .and_L),
    (0b10100110, 0x00, 0x00, .and_atHL),
    (0b10100111, 0x00, 0x00, .and_A),
    (0b10101000, 0x00, 0x00, .xor_B),
    (0b10101001, 0x00, 0x00, .xor_C),
    (0b10101010, 0x00, 0x00, .xor_D),
    (0b10101011, 0x00, 0x00, .xor_E),
    (0b10101100, 0x00, 0x00, .xor_H),
    (0b10101101, 0x00, 0x00, .xor_L),
    (0b10101110, 0x00, 0x00, .xor_atHL),
    (0b10101111, 0x00, 0x00, .xor_A)] rowOk = true := by decide +kernel

/-- Primary rows B0 to BF. -/
theorem test_decode_Bx : List.all [
    (0b10110000, 0x00, 0x00, .or_B),
    (0b10110001, 0x00, 0x00, .or_C),
    (0b10110010, 0x00, 0x00, .or_D),
    (0b10110011, 0x00, 0x00, .or_E),
    (0b10110100, 0x00, 0x00, .or_H),
    (0b10110101, 0x00, 0x00, .or_L),
    (0b10110110, 0x00, 0x00, .or_atHL),
    (0b10110111, 0x00, 0x00, .or_A),
    (0b10111000, 0x00, 0x00, .cp_B),
    (0b10111001, 0x00, 0x00, .cp_C),
    (0b10111010, 0x00, 0x00, .cp_D),
    (0b10111011, 0x00, 0x00, .cp_E),
    (0b10111100, 0x00, 0x00, .cp_H),
    (0b10111101, 0x00, 0x00, .cp_L),
    (0b10111110, 0x00, 0x00, .cp_atHL),
    (0b10111111, 0x00, 0x00, .cp_A)] rowOk = true := by decide +kernel

/-- Primary rows C0 to CF. -/
theorem test_decode_Cx : List.all [
    (0b11000000, 0x00, 0x00, .ret_NZ),
    (0b11000001, 0x00, 0x00, .pop_BC),
    (0b11000010, 0x34, 0x12, .jp_NZ_nn 0x1234),
    (0b11000011, 0x34, 0x12, .jp_nn 0x1234),
    (0b11000100, 0x34, 0x12, .call_NZ_nn 0x1234),
    (0b11000101, 0x00, 0x00, .push_BC),
    (0b11000110, 0xA5, 0x00, .add_A_n 0xA5),
    (0b11000111, 0x00, 0x00, .rst_00h),
    (0b11001000, 0x00, 0x00, .ret_Z),
    (0b11001001, 0x00, 0x00, .ret),
    (0b11001010, 0x34, 0x12, .jp_Z_nn 0x1234),
    (0b11001100, 0x34, 0x12, .call_Z_nn 0x1234),
    (0b11001101, 0x34, 0x12, .call_nn 0x1234),
    (0b11001110, 0xA5, 0x00, .adc_A_n 0xA5),
    (0b11001111, 0x00, 0x00, .rst_08h)] rowOk = true := by decide +kernel

/-- Primary rows D0 to DF. -/
theorem test_decode_Dx : List.all [
    (0b11010000, 0x00, 0x00, .ret_NC),
    (0b11010001, 0x00, 0x00, .pop_DE),
    (0b11010010, 0x34, 0x12, .jp_NC_nn 0x1234),
    (0b11010100, 0x34, 0x12, .call_NC_nn 0x1234),
    (0b11010101, 0x00, 0x00, .push_DE),
    (0b11010110, 0xA5, 0x00, .sub_n 0xA5),
    (0b11010111, 0x00, 0x00, .rst_10h),
    (0b11011000, 0x00, 0x00, .ret_C),
    (0b11011001, 0x00, 0x00, .reti),
    (0b11011010, 0x34, 0x12, .jp_C_nn 0x1234),
    (0b11011100, 0x34, 0x12, .call_C_nn 0x1234),
    (0b11011110, 0xA5, 0x00, .sbc_A_n 0xA5),
    (0b11011111, 0x00, 0x00, .rst_18h)] rowOk = true := by decide +kernel

/-- Primary rows E0 to EF. -/
theorem test_decode_Ex : List.all [
    (0b11100000, 0xA5, 0x00, .ldh_atn_A 0xA5),
    (0b11100001, 0x00, 0x00, .pop_HL),
    (0b11100010, 0x00, 0x00, .ldh_atC_A),
    (0b11100101, 0x00, 0x00, .push_HL),
    (0b11100110, 0xA5, 0x00, .and_n 0xA5),
    (0b11100111, 0x00, 0x00, .rst_20h),
    (0b11101000, 0xA5, 0x00, .add_SP_e 0xA5),
    (0b11101001, 0x00, 0x00, .jp_HL),
    (0b11101010, 0x34, 0x12, .ld_atnn_A 0x1234),
    (0b11101110, 0xA5, 0x00, .xor_n 0xA5),
    (0b11101111, 0x00, 0x00, .rst_28h)] rowOk = true := by decide +kernel

/-- Primary rows F0 to FF. -/
theorem test_decode_Fx : List.all [
    (0b11110000, 0xA5, 0x00, .ldh_A_atn 0xA5),
    (0b11110001, 0x00, 0x00, .pop_AF),
    (0b11110010, 0x00, 0x00, .ldh_A_atC),
    (0b11110011, 0x00, 0x00, .di),
    (0b11110101, 0x00, 0x00, .push_AF),
    (0b11110110, 0xA5, 0x00, .or_n 0xA5),
    (0b11110111, 0x00, 0x00, .rst_30h),
    (0b11111000, 0xA5, 0x00, .ld_HL_SPe 0xA5),
    (0b11111001, 0x00, 0x00, .ld_SP_HL),
    (0b11111010, 0x34, 0x12, .ld_A_atnn 0x1234),
    (0b11111011, 0x00, 0x00, .ei),
    (0b11111110, 0xA5, 0x00, .cp_n 0xA5),
    (0b11111111, 0x00, 0x00, .rst_38h)] rowOk = true := by decide +kernel

/-- Extended rows 00 to 0F. -/
theorem test_decode_CB_0x : List.all [
    (0b11001011, 0b00000000, 0x00, .rlc_B),
    (0b11001011, 0b00000001, 0x00, .rlc_C),
    (0b11001011, 0b00000010, 0x00, .rlc_D),
    (0b11001011, 0b00000011, 0x00, .rlc_E),
    (0b11001011, 0b00000100, 0x00, .rlc_H),
    (0b11001011, 0b00000101, 0x00, .rlc_L),
    (0b11001011, 0b00000110, 0x00, .rlc_atHL),
    (0b11001011, 0b00000111, 0x00, .rlc_A),
    (0b11001011, 0b00001000, 0x00, .rrc_B),
    (0b11001011, 0b00001001, 0x00, .rrc_C),
    (0b11001011, 0b00001010, 0x00, .rrc_D),
    (0b11001011, 0b00001011, 0x00, .rrc_E),
    (0b11001011, 0b00001100, 0x00, .rrc_H),
    (0b11001011, 0b00001101, 0x00, .rrc_L),
    (0b11001011, 0b00001110, 0x00, .rrc_atHL),
    (0b11001011, 0b00001111, 0x00, .rrc_A)] rowOk = true := by decide +kernel

/-- Extended rows 10 to 1F. -/
theorem test_decode_CB_1x : List.all [
    (0b11001011, 0b00010000, 0x00, .rl_B),
    (0b11001011, 0b00010001, 0x00, .rl_C),
    (0b11001011, 0b00010010, 0x00, .rl_D),
    (0b11001011, 0b00010011, 0x00, .rl_E),
    (0b11001011, 0b00010100, 0x00, .rl_H),
    (0b11001011, 0b00010101, 0x00, .rl_L),
    (0b11001011, 0b00010110, 0x00, .rl_atHL),
    (0b11001011, 0b00010111, 0x00, .rl_A),
    (0b11001011, 0b00011000, 0x00, .rr_B),
    (0b11001011, 0b00011001, 0x00, .rr_C),
    (0b11001011, 0b00011010, 0x00, .rr_D),
    (0b11001011, 0b00011011, 0x00, .rr_E),
    (0b11001011, 0b00011100, 0x00, .rr_H),
    (0b11001011, 0b00011101, 0x00, .rr_L),
    (0b11001011, 0b00011110, 0x00, .rr_atHL),
    (0b11001011, 0b00011111, 0x00, .rr_A)] rowOk = true := by decide +kernel

/-- Extended rows 20 to 2F. -/
theorem test_decode_CB_2x : List.all [
    (0b11001011, 0b00100000, 0x00, .sla_B),
    (0b11001011, 0b00100001, 0x00, .sla_C),
    (0b11001011, 0b00100010, 0x00, .sla_D),
    (0b11001011, 0b00100011, 0x00, .sla_E),
    (0b11001011, 0b00100100, 0x00, .sla_H),
    (0b11001011, 0b00100101, 0x00, .sla_L),
    (0b11001011, 0b00100110, 0x00, .sla_atHL),
    (0b11001011, 0b00100111, 0x00, .sla_A),
    (0b11001011, 0b00101000, 0x00, .sra_B),
    (0b11001011, 0b00101001, 0x00, .sra_C),
    (0b11001011, 0b00101010, 0x00, .sra_D),
    (0b11001011, 0b00101011, 0x00, .sra_E),
    (0b11001011, 0b00101100, 0x00, .sra_H),
    (0b11001011, 0b00101101, 0x00, .sra_L),
    (0b11001011, 0b00101110, 0x00, .sra_atHL),
    (0b11001011, 0b00101111, 0x00, .sra_A)] rowOk = true := by decide +kernel

/-- Extended rows 30 to 3F. -/
theorem test_decode_CB_3x : List.all [
    (0b11001011, 0b00110000, 0x00, .swap_B),
    (0b11001011, 0b00110001, 0x00, .swap_C),
    (0b11001011, 0b00110010, 0x00, .swap_D),
    (0b11001011, 0b00110011, 0x00, .swap_E),
    (0b11001011, 0b00110100, 0x00, .swap_H),
    (0b11001011, 0b00110101, 0x00, .swap_L),
    (0b11001011, 0b00110110, 0x00, .swap_atHL),
    (0b11001011, 0b00110111, 0x00, .swap_A),
    (0b11001011, 0b00111000, 0x00, .srl_B),
    (0b11001011, 0b00111001, 0x00, .srl_C),
    (0b11001011, 0b00111010, 0x00, .srl_D),
    (0b11001011, 0b00111011, 0x00, .srl_E),
    (0b11001011, 0b00111100, 0x00, .srl_H),
    (0b11001011, 0b00111101, 0x00, .srl_L),
    (0b11001011, 0b00111110, 0x00, .srl_atHL),
    (0b11001011, 0b00111111, 0x00, .srl_A)] rowOk = true := by decide +kernel

/-- Extended rows 40 to 4F. -/
theorem test_decode_CB_4x : List.all [
    (0b11001011, 0b01000000, 0x00, .bit_0_B),
    (0b11001011, 0b01000001, 0x00, .bit_0_C),
    (0b11001011, 0b01000010, 0x00, .bit_0_D),
    (0b11001011, 0b01000011, 0x00, .bit_0_E),
    (0b11001011, 0b01000100, 0x00, .bit_0_H),
    (0b11001011, 0b01000101, 0x00, .bit_0_L),
    (0b11001011, 0b01000110, 0x00, .bit_0_atHL),
    (0b11001011, 0b01000111, 0x00, .bit_0_A),
    (0b11001011, 0b01001000, 0x00, .bit_1_B),
    (0b11001011, 0b01001001, 0x00, .bit_1_C),
    (0b11001011, 0b01001010, 0x00, .bit_1_D),
    (0b11001011, 0b01001011, 0x00, .bit_1_E),
    (0b11001011, 0b01001100, 0x00, .bit_1_H),
    (0b11001011, 0b01001101, 0x00, .bit_1_L),
    (0b11001011, 0b01001110, 0x00, .bit_1_atHL),
    (0b11001011, 0b01001111, 0x00, .bit_1_A)] rowOk = true := by decide +kernel

/-- Extended rows 50 to 5F. -/
theorem test_decode_CB_5x : List.all [
    (0b11001011, 0b01010000, 0x00, .bit_2_B),
    (0b11001011, 0b01010001, 0x00, .bit_2_C),
    (0b11001011, 0b01010010, 0x00, .bit_2_D),
    (0b11001011, 0b01010011, 0x00, .bit_2_E),
    (0b11001011, 0b01010100, 0x00, .bit_2_H),
    (0b11001011, 0b01010101, 0x00, .bit_2_L),
    (0b11001011, 0b01010110, 0x00, .bit_2_atHL),
    (0b11001011, 0b01010111, 0x00, .bit_2_A),
    (0b11001011, 0b01011000, 0x00, .bit_3_B),
    (0b11001011, 0b01011001, 0x00, .bit_3_C),
    (0b11001011, 0b01011010, 0x00, .bit_3_D),
    (0b11001011, 0b01011011, 0x00, .bit_3_E),
    (0b11001011, 0b01011100, 0x00, .bit_3_H),
    (0b11001011, 0b01011101, 0x00, .bit_3_L),
    (0b11001011, 0b01011110, 0x00, .bit_3_atHL),
    (0b11001011, 0b01011111, 0x00, .bit_3_A)] rowOk = true := by decide +kernel

/-- Extended rows 60 to 6F. -/
theorem test_decode_CB_6x : List.all [
    (0b11001011, 0b01100000, 0x00, .bit_4_B),
    (0b11001011, 0b01100001, 0x00, .bit_4_C),
    (0b11001011, 0b01100010, 0x00, .bit_4_D),
    (0b11001011, 0b01100011, 0x00, .bit_4_E),
    (0b11001011, 0b01100100, 0x00, .bit_4_H),
    (0b11001011, 0b01100101, 0x00, .bit_4_L),
    (0b11001011, 0b01100110, 0x00, .bit_4_atHL),
    (0b11001011, 0b01100111, 0x00, .bit_4_A),
    (0b11001011, 0b01101000, 0x00, .bit_5_B),
    (0b11001011, 0b01101001, 0x00, .bit_5_C),
    (0b11001011, 0b01101010, 0x00, .bit_5_D),
    (0b11001011, 0b01101011, 0x00, .bit_5_E),
    (0b11001011, 0b01101100, 0x00, .bit_5_H),
    (0b11001011, 0b01101101, 0x00, .bit_5_L),
    (0b11001011, 0b01101110, 0x00, .bit_5_atHL),
    (0b11001011, 0b01101111, 0x00, .bit_5_A)] rowOk = true := by decide +kernel

/-- Extended rows 70 to 7F. -/
theorem test_decode_CB_7x : List.all [
    (0b11001011, 0b01110000, 0x00, .bit_6_B),
    (0b11001011, 0b01110001, 0x00, .bit_6_C),
    (0b11001011, 0b01110010, 0x00, .bit_6_D),
    (0b11001011, 0b01110011, 0x00, .bit_6_E),
    (0b11001011, 0b01110100, 0x00, .bit_6_H),
    (0b11001011, 0b01110101, 0x00, .bit_6_L),
    (0b11001011, 0b01110110, 0x00, .bit_6_atHL),
    (0b11001011, 0b01110111, 0x00, .bit_6_A),
    (0b11001011, 0b01111000, 0x00, .bit_7_B),
    (0b11001011, 0b01111001, 0x00, .bit_7_C),
    (0b11001011, 0b01111010, 0x00, .bit_7_D),
    (0b11001011, 0b01111011, 0x00, .bit_7_E),
    (0b11001011, 0b01111100, 0x00, .bit_7_H),
    (0b11001011, 0b01111101, 0x00, .bit_7_L),
    (0b11001011, 0b01111110, 0x00, .bit_7_atHL),
    (0b11001011, 0b01111111, 0x00, .bit_7_A)] rowOk = true := by decide +kernel

/-- Extended rows 80 to 8F. -/
theorem test_decode_CB_8x : List.all [
    (0b11001011, 0b10000000, 0x00, .res_0_B),
    (0b11001011, 0b10000001, 0x00, .res_0_C),
    (0b11001011, 0b10000010, 0x00, .res_0_D),
    (0b11001011, 0b10000011, 0x00, .res_0_E),
    (0b11001011, 0b10000100, 0x00, .res_0_H),
    (0b11001011, 0b10000101, 0x00, .res_0_L),
    (0b11001011, 0b10000110, 0x00, .res_0_atHL),
    (0b11001011, 0b10000111, 0x00, .res_0_A),
    (0b11001011, 0b10001000, 0x00, .res_1_B),
    (0b11001011, 0b10001001, 0x00, .res_1_C),
    (0b11001011, 0b10001010, 0x00, .res_1_D),
    (0b11001011, 0b10001011, 0x00, .res_1_E),
    (0b11001011, 0b10001100, 0x00, .res_1_H),
    (0b11001011, 0b10001101, 0x00, .res_1_L),
    (0b11001011, 0b10001110, 0x00, .res_1_atHL),
    (0b11001011, 0b10001111, 0x00, .res_1_A)] rowOk = true := by decide +kernel

/-- Extended rows 90 to 9F. -/
theorem test_decode_CB_9x : List.all [
    (0b11001011, 0b10010000, 0x00, .res_2_B),
    (0b11001011, 0b10010001, 0x00, .res_2_C),
    (0b11001011, 0b10010010, 0x00, .res_2_D),
    (0b11001011, 0b10010011, 0x00, .res_2_E),
    (0b11001011, 0b10010100, 0x00, .res_2_H),
    (0b11001011, 0b10010101, 0x00, .res_2_L),
    (0b11001011, 0b10010110, 0x00, .res_2_atHL),
    (0b11001011, 0b10010111, 0x00, .res_2_A),
    (0b11001011, 0b10011000, 0x00, .res_3_B),
    (0b11001011, 0b10011001, 0x00, .res_3_C),
    (0b11001011, 0b10011010, 0x00, .res_3_D),
    (0b11001011, 0b10011011, 0x00, .res_3_E),
    (0b11001011, 0b10011100, 0x00, .res_3_H),
    (0b11001011, 0b10011101, 0x00, .res_3_L),
    (0b11001011, 0b10011110, 0x00, .res_3_atHL),
    (0b11001011, 0b10011111, 0x00, .res_3_A)] rowOk = true := by decide +kernel

/-- Extended rows A0 to AF. -/
theorem test_decode_CB_Ax : List.all [
    (0b11001011, 0b10100000, 0x00, .res_4_B),
    (0b11001011, 0b10100001, 0x00, .res_4_C),
    (0b11001011, 0b10100010, 0x00, .res_4_D),
    (0b11001011, 0b10100011, 0x00, .res_4_E),
    (0b11001011, 0b10100100, 0x00, .res_4_H),
    (0b11001011, 0b10100101, 0x00, .res_4_L),
    (0b11001011, 0b10100110, 0x00, .res_4_atHL),
    (0b11001011, 0b10100111, 0x00, .res_4_A),
    (0b11001011, 0b10101000, 0x00, .res_5_B),
    (0b11001011, 0b10101001, 0x00, .res_5_C),
    (0b11001011, 0b10101010, 0x00, .res_5_D),
    (0b11001011, 0b10101011, 0x00, .res_5_E),
    (0b11001011, 0b10101100, 0x00, .res_5_H),
    (0b11001011, 0b10101101, 0x00, .res_5_L),
    (0b11001011, 0b10101110, 0x00, .res_5_atHL),
    (0b11001011, 0b10101111, 0x00, .res_5_A)] rowOk = true := by decide +kernel

/-- Extended rows B0 to BF. -/
theorem test_decode_CB_Bx : List.all [
    (0b11001011, 0b10110000, 0x00, .res_6_B),
    (0b11001011, 0b10110001, 0x00, .res_6_C),
    (0b11001011, 0b10110010, 0x00, .res_6_D),
    (0b11001011, 0b10110011, 0x00, .res_6_E),
    (0b11001011, 0b10110100, 0x00, .res_6_H),
    (0b11001011, 0b10110101, 0x00, .res_6_L),
    (0b11001011, 0b10110110, 0x00, .res_6_atHL),
    (0b11001011, 0b10110111, 0x00, .res_6_A),
    (0b11001011, 0b10111000, 0x00, .res_7_B),
    (0b11001011, 0b10111001, 0x00, .res_7_C),
    (0b11001011, 0b10111010, 0x00, .res_7_D),
    (0b11001011, 0b10111011, 0x00, .res_7_E),
    (0b11001011, 0b10111100, 0x00, .res_7_H),
    (0b11001011, 0b10111101, 0x00, .res_7_L),
    (0b11001011, 0b10111110, 0x00, .res_7_atHL),
    (0b11001011, 0b10111111, 0x00, .res_7_A)] rowOk = true := by decide +kernel

/-- Extended rows C0 to CF. -/
theorem test_decode_CB_Cx : List.all [
    (0b11001011, 0b11000000, 0x00, .set_0_B),
    (0b11001011, 0b11000001, 0x00, .set_0_C),
    (0b11001011, 0b11000010, 0x00, .set_0_D),
    (0b11001011, 0b11000011, 0x00, .set_0_E),
    (0b11001011, 0b11000100, 0x00, .set_0_H),
    (0b11001011, 0b11000101, 0x00, .set_0_L),
    (0b11001011, 0b11000110, 0x00, .set_0_atHL),
    (0b11001011, 0b11000111, 0x00, .set_0_A),
    (0b11001011, 0b11001000, 0x00, .set_1_B),
    (0b11001011, 0b11001001, 0x00, .set_1_C),
    (0b11001011, 0b11001010, 0x00, .set_1_D),
    (0b11001011, 0b11001011, 0x00, .set_1_E),
    (0b11001011, 0b11001100, 0x00, .set_1_H),
    (0b11001011, 0b11001101, 0x00, .set_1_L),
    (0b11001011, 0b11001110, 0x00, .set_1_atHL),
    (0b11001011, 0b11001111, 0x00, .set_1_A)] rowOk = true := by decide +kernel

/-- Extended rows D0 to DF. -/
theorem test_decode_CB_Dx : List.all [
    (0b11001011, 0b11010000, 0x00, .set_2_B),
    (0b11001011, 0b11010001, 0x00, .set_2_C),
    (0b11001011, 0b11010010, 0x00, .set_2_D),
    (0b11001011, 0b11010011, 0x00, .set_2_E),
    (0b11001011, 0b11010100, 0x00, .set_2_H),
    (0b11001011, 0b11010101, 0x00, .set_2_L),
    (0b11001011, 0b11010110, 0x00, .set_2_atHL),
    (0b11001011, 0b11010111, 0x00, .set_2_A),
    (0b11001011, 0b11011000, 0x00, .set_3_B),
    (0b11001011, 0b11011001, 0x00, .set_3_C),
    (0b11001011, 0b11011010, 0x00, .set_3_D),
    (0b11001011, 0b11011011, 0x00, .set_3_E),
    (0b11001011, 0b11011100, 0x00, .set_3_H),
    (0b11001011, 0b11011101, 0x00, .set_3_L),
    (0b11001011, 0b11011110, 0x00, .set_3_atHL),
    (0b11001011, 0b11011111, 0x00, .set_3_A)] rowOk = true := by decide +kernel

/-- Extended rows E0 to EF. -/
theorem test_decode_CB_Ex : List.all [
    (0b11001011, 0b11100000, 0x00, .set_4_B),
    (0b11001011, 0b11100001, 0x00, .set_4_C),
    (0b11001011, 0b11100010, 0x00, .set_4_D),
    (0b11001011, 0b11100011, 0x00, .set_4_E),
    (0b11001011, 0b11100100, 0x00, .set_4_H),
    (0b11001011, 0b11100101, 0x00, .set_4_L),
    (0b11001011, 0b11100110, 0x00, .set_4_atHL),
    (0b11001011, 0b11100111, 0x00, .set_4_A),
    (0b11001011, 0b11101000, 0x00, .set_5_B),
    (0b11001011, 0b11101001, 0x00, .set_5_C),
    (0b11001011, 0b11101010, 0x00, .set_5_D),
    (0b11001011, 0b11101011, 0x00, .set_5_E),
    (0b11001011, 0b11101100, 0x00, .set_5_H),
    (0b11001011, 0b11101101, 0x00, .set_5_L),
    (0b11001011, 0b11101110, 0x00, .set_5_atHL),
    (0b11001011, 0b11101111, 0x00, .set_5_A)] rowOk = true := by decide +kernel

/-- Extended rows F0 to FF. -/
theorem test_decode_CB_Fx : List.all [
    (0b11001011, 0b11110000, 0x00, .set_6_B),
    (0b11001011, 0b11110001, 0x00, .set_6_C),
    (0b11001011, 0b11110010, 0x00, .set_6_D),
    (0b11001011, 0b11110011, 0x00, .set_6_E),
    (0b11001011, 0b11110100, 0x00, .set_6_H),
    (0b11001011, 0b11110101, 0x00, .set_6_L),
    (0b11001011, 0b11110110, 0x00, .set_6_atHL),
    (0b11001011, 0b11110111, 0x00, .set_6_A),
    (0b11001011, 0b11111000, 0x00, .set_7_B),
    (0b11001011, 0b11111001, 0x00, .set_7_C),
    (0b11001011, 0b11111010, 0x00, .set_7_D),
    (0b11001011, 0b11111011, 0x00, .set_7_E),
    (0b11001011, 0b11111100, 0x00, .set_7_H),
    (0b11001011, 0b11111101, 0x00, .set_7_L),
    (0b11001011, 0b11111110, 0x00, .set_7_atHL),
    (0b11001011, 0b11111111, 0x00, .set_7_A)] rowOk = true := by decide +kernel

/-! ### One step of each form, from the spec's vectors -/

/-- Code at 0xC000 with the overlay down, as the vectors place it. -/
def code (bytes : List Byte) : State :=
  { State.reset with boot := false, pc := 0xC000, mem := Memory.pokeRun [] 0xC000 bytes }

/-- One step under the default parameters: its cycles, and a test of the state it answers. -/
def check (cycles : Nat) (s : State) (p : State → Bool) : Bool :=
  stepCycles standardConfig s == cycles && match step s with
    | .next t => p t
    | .fault _ => false
    | .refused _ => false

theorem test_V1 : check 4 { code [0x41] with c := 0x5A }
    (fun t => t.b == 0x5A && t.pc == 0xC001) = true := by decide +kernel

theorem test_V3 : check 8 (code [0x16, 0x99])
    (fun t => t.d == 0x99 && t.pc == 0xC002) = true := by decide +kernel

theorem test_V4 : check 8 ({ code [0x66] with h := 0xC1, l := 0x00 }.write 0xC100 0x12)
    (fun t => t.h == 0x12 && t.pc == 0xC001) = true := by decide +kernel

theorem test_V5 : check 8 { code [0x74] with h := 0xC1, l := 0x00 }
    (fun t => t.pc == 0xC001 && t.read 0xC100 == 0xC1 && t.read 0xE100 == 0xC1) = true := by decide +kernel

theorem test_V6 : check 12 { code [0x36, 0x42] with h := 0xC1, l := 0x00 }
    (fun t => t.pc == 0xC002 && t.read 0xC100 == 0x42 && t.read 0xE100 == 0x42) = true := by decide +kernel

theorem test_V10 : check 8 ({ code [0x0A] with b := 0xC1, c := 0x00 }.write 0xC100 0x9C)
    (fun t => t.a == 0x9C && t.pc == 0xC001) = true := by decide +kernel

theorem test_V11 : check 8 ({ code [0x1A] with d := 0xFF, e := 0xFF }.write 0xFFFF 0x1F)
    (fun t => t.a == 0x1F && t.pc == 0xC001) = true := by decide +kernel

theorem test_V12 : check 8 { code [0x02] with a := 0x3C, b := 0xD0, c := 0x00 }
    (fun t => t.pc == 0xC001 && t.read 0xD000 == 0x3C && t.read 0xF000 == 0x3C) = true := by decide +kernel

theorem test_V13 : check 8 { code [0x12] with a := 0x3C, d := 0x80, e := 0x00 }
    (fun t => t.pc == 0xC001 && t.read 0x8000 == 0x3C) = true := by decide +kernel

theorem test_V14 : check 16 ((code [0xFA, 0x00, 0xC1]).write 0xC100 0xA5)
    (fun t => t.a == 0xA5 && t.pc == 0xC003) = true := by decide +kernel

theorem test_V15 : check 16 { code [0xEA, 0x00, 0xC1] with a := 0xA5 }
    (fun t => t.pc == 0xC003 && t.read 0xC100 == 0xA5 && t.read 0xE100 == 0xA5) = true := by decide +kernel

theorem test_V16 : check 12 ((code [0xF0, 0x80]).write 0xFF80 0x77)
    (fun t => t.a == 0x77 && t.pc == 0xC002) = true := by decide +kernel

theorem test_V17 : check 12 { code [0xE0, 0xFF] with a := 0x1F }
    (fun t => t.pc == 0xC002 && t.read 0xFFFF == 0x1F) = true := by decide +kernel

theorem test_V18 : check 8 ({ code [0xF2] with c := 0x0F }.write 0xFF0F 0xE1)
    (fun t => t.a == 0xE1 && t.pc == 0xC001) = true := by decide +kernel

theorem test_V19 : check 8 { code [0xE2] with a := 0x77, c := 0x80 }
    (fun t => t.pc == 0xC001 && t.read 0xFF80 == 0x77) = true := by decide +kernel

theorem test_V20 : check 8 { code [0x22] with a := 0x11, h := 0xC0, l := 0xFF }
    (fun t => t.h == 0xC1 && t.l == 0x00 && t.pc == 0xC001 && t.read 0xC0FF == 0x11 && t.read 0xE0FF == 0x11) = true := by decide +kernel

theorem test_V21 : check 8 ({ code [0x2A] with h := 0xFF, l := 0xFF }.write 0xFFFF 0x05)
    (fun t => t.a == 0x05 && t.h == 0x00 && t.l == 0x00 && t.pc == 0xC001) = true := by decide +kernel

theorem test_V22 : check 8 { code [0x32] with a := 0x22, h := 0x00, l := 0x00 }
    (fun t => t.h == 0xFF && t.l == 0xFF && t.pc == 0xC001 && t.read 0x0000 == 0x22) = true := by decide +kernel

theorem test_V23 : check 8 ({ code [0x3A] with h := 0xC1, l := 0x00 }.write 0xC100 0x44)
    (fun t => t.a == 0x44 && t.h == 0xC0 && t.l == 0xFF && t.pc == 0xC001) = true := by decide +kernel

theorem test_V24 : check 12 (code [0x01, 0x34, 0x12])
    (fun t => t.b == 0x12 && t.c == 0x34 && t.pc == 0xC003) = true := by decide +kernel

theorem test_V26 : check 20 { code [0x08, 0x00, 0xC1] with sp := 0xFFF8 }
    (fun t => t.pc == 0xC003 && t.read 0xC100 == 0xF8 && t.read 0xC101 == 0xFF && t.read 0xE100 == 0xF8 && t.read 0xE101 == 0xFF) = true := by decide +kernel

theorem test_V28 : check 8 { code [0xF9] with h := 0xDF, l := 0xF0 }
    (fun t => t.sp == 0xDFF0 && t.pc == 0xC001) = true := by decide +kernel

theorem test_V30 : check 16 ({ code [0xF5] with sp := 0xD000, a := 0x12 }.setF 0xB0)
    (fun t => t.sp == 0xCFFE && t.pc == 0xC001 && t.read 0xCFFE == 0xB0 && t.read 0xCFFF == 0x12 && t.read 0xEFFE == 0xB0 && t.read 0xEFFF == 0x12) = true := by decide +kernel

theorem test_V32 : check 12 (({ code [0xD1] with sp := 0xFFFC }.write 0xFFFC 0x34).write 0xFFFD 0x12)
    (fun t => t.d == 0x12 && t.e == 0x34 && t.sp == 0xFFFE && t.pc == 0xC001) = true := by decide +kernel

theorem test_V33 : check 12 (({ code [0xF1] with sp := 0xD000 }.write 0xD000 0xFF).write 0xD001 0x12)
    (fun t => t.a == 0x12 && t.f == 0xF0 && t.sp == 0xD002 && t.pc == 0xC001) = true := by decide +kernel

theorem test_V35 : check 4 { code [0x80] with a := 0x3A, b := 0xC6 }
    (fun t => t.a == 0x00 && t.f == 0xB0 && t.pc == 0xC001) = true := by decide +kernel

theorem test_V38 : check 4 ({ code [0x89] with a := 0xFF, c := 0x00 }.setF 0x10)
    (fun t => t.a == 0x00 && t.f == 0xB0 && t.pc == 0xC001) = true := by decide +kernel

theorem test_V41 : check 4 { code [0x90] with a := 0x10, b := 0x01 }
    (fun t => t.a == 0x0F && t.f == 0x60 && t.pc == 0xC001) = true := by decide +kernel

theorem test_V43 : check 4 ({ code [0x98] with a := 0x00, b := 0xFF }.setF 0x10)
    (fun t => t.f == 0xF0 && t.pc == 0xC001) = true := by decide +kernel

theorem test_V45 : check 4 { code [0xA0] with a := 0xF0, b := 0x0F }
    (fun t => t.a == 0x00 && t.f == 0xA0 && t.pc == 0xC001) = true := by decide +kernel

theorem test_V46 : check 4 ({ code [0xAF] with a := 0x5A }.setF 0x70)
    (fun t => t.a == 0x00 && t.f == 0x80 && t.pc == 0xC001) = true := by decide +kernel

theorem test_V47 : check 4 { code [0xB1] with a := 0x00, c := 0x00 }
    (fun t => t.f == 0x80 && t.pc == 0xC001) = true := by decide +kernel

theorem test_V48 : check 4 { code [0xB8] with a := 0x10, b := 0x20 }
    (fun t => t.f == 0x50 && t.pc == 0xC001) = true := by decide +kernel

theorem test_V51 : check 4 ({ code [0x3C] with a := 0xFF }.setF 0x10)
    (fun t => t.a == 0x00 && t.f == 0xB0 && t.pc == 0xC001) = true := by decide +kernel

theorem test_V55 : check 4 ({ code [0x3D] with a := 0x00 }.setF 0x10)
    (fun t => t.a == 0xFF && t.f == 0x70 && t.pc == 0xC001) = true := by decide +kernel

theorem test_V56 : check 12 ({ code [0x34] with h := 0xC1, l := 0x00 }.write 0xC100 0xFF)
    (fun t => t.f == 0xA0 && t.pc == 0xC001 && t.read 0xC100 == 0x00 && t.read 0xE100 == 0x00) = true := by decide +kernel

theorem test_V57 : check 12 ({ code [0x35] with h := 0xC1, l := 0x00 }.write 0xC100 0x00)
    (fun t => t.f == 0x60 && t.pc == 0xC001 && t.read 0xC100 == 0xFF && t.read 0xE100 == 0xFF) = true := by decide +kernel

theorem test_V59 : check 4 { code [0x27] with a := 0x7D }
    (fun t => t.a == 0x83 && t.pc == 0xC001) = true := by decide +kernel

theorem test_V61 : check 4 ({ code [0x27] with a := 0x00 }.setF 0x70)
    (fun t => t.a == 0x9A && t.f == 0x50 && t.pc == 0xC001) = true := by decide +kernel

theorem test_V63 : check 4 { code [0x2F] with a := 0x35 }
    (fun t => t.a == 0xCA && t.f == 0x60 && t.pc == 0xC001) = true := by decide +kernel

theorem test_V64 : check 4 ((code [0x37]).setF 0xE0)
    (fun t => t.f == 0x90 && t.pc == 0xC001) = true := by decide +kernel

theorem test_V65 : check 4 ((code [0x3F]).setF 0x30)
    (fun t => t.f == 0x00 && t.pc == 0xC001) = true := by decide +kernel

theorem test_V66 : check 8 { code [0x09] with h := 0x8A, l := 0x23, b := 0x06, c := 0x05 }
    (fun t => t.h == 0x90 && t.l == 0x28 && t.f == 0x20 && t.pc == 0xC001) = true := by decide +kernel

theorem test_V71 : check 8 { code [0x13] with d := 0x00, e := 0xFF }
    (fun t => t.d == 0x01 && t.e == 0x00 && t.pc == 0xC001) = true := by decide +kernel

theorem test_V72 : check 8 { code [0x3B] with sp := 0x0000 }
    (fun t => t.sp == 0xFFFF && t.pc == 0xC001) = true := by decide +kernel

theorem test_V76 : check 16 { code [0xE8, 0xFF] with sp := 0x0001 }
    (fun t => t.f == 0x30 && t.sp == 0x0000 && t.pc == 0xC002) = true := by decide +kernel

theorem test_V78 : check 12 { code [0xF8, 0x01] with sp := 0x00FF }
    (fun t => t.h == 0x01 && t.f == 0x30 && t.pc == 0xC002) = true := by decide +kernel

theorem test_V80 : check 4 { code [0x07] with a := 0x85 }
    (fun t => t.a == 0x0B && t.f == 0x10 && t.pc == 0xC001) = true := by decide +kernel

theorem test_V82 : check 4 { code [0x0F] with a := 0x01 }
    (fun t => t.a == 0x80 && t.f == 0x10 && t.pc == 0xC001) = true := by decide +kernel

theorem test_V83 : check 4 { code [0x17] with a := 0x80 }
    (fun t => t.a == 0x00 && t.f == 0x10 && t.pc == 0xC001) = true := by decide +kernel

theorem test_V84 : check 4 ({ code [0x1F] with a := 0x01 }.setF 0x10)
    (fun t => t.a == 0x80 && t.pc == 0xC001) = true := by decide +kernel

theorem test_V85 : check 8 { code [0xCB, 0x00] with b := 0x85 }
    (fun t => t.b == 0x0B && t.f == 0x10 && t.pc == 0xC002) = true := by decide +kernel

theorem test_V87 : check 8 { code [0xCB, 0x09] with c := 0x01 }
    (fun t => t.c == 0x80 && t.f == 0x10 && t.pc == 0xC002) = true := by decide +kernel

theorem test_V88 : check 8 { code [0xCB, 0x12] with d := 0x80 }
    (fun t => t.d == 0x00 && t.f == 0x90 && t.pc == 0xC002) = true := by decide +kernel

theorem test_V89 : check 8 ({ code [0xCB, 0x1B] with e := 0x01 }.setF 0x10)
    (fun t => t.e == 0x80 && t.pc == 0xC002) = true := by decide +kernel

theorem test_V90 : check 8 { code [0xCB, 0x24] with h := 0xFF }
    (fun t => t.h == 0xFE && t.f == 0x10 && t.pc == 0xC002) = true := by decide +kernel

theorem test_V91 : check 8 { code [0xCB, 0x2D] with l := 0x81 }
    (fun t => t.l == 0xC0 && t.f == 0x10 && t.pc == 0xC002) = true := by decide +kernel

theorem test_V92 : check 8 { code [0xCB, 0x37] with a := 0xF1 }
    (fun t => t.a == 0x1F && t.pc == 0xC002) = true := by decide +kernel

theorem test_V94 : check 8 { code [0xCB, 0x3F] with a := 0x01 }
    (fun t => t.a == 0x00 && t.f == 0x90 && t.pc == 0xC002) = true := by decide +kernel

theorem test_V95 : check 16 ({ code [0xCB, 0x06] with h := 0xC1, l := 0x00 }.write 0xC100 0x80)
    (fun t => t.f == 0x10 && t.pc == 0xC002 && t.read 0xC100 == 0x01 && t.read 0xE100 == 0x01) = true := by decide +kernel

theorem test_V97 : check 16 ({ code [0xCB, 0x36] with h := 0xC1, l := 0x00 }.write 0xC100 0xAB)
    (fun t => t.pc == 0xC002 && t.read 0xC100 == 0xBA && t.read 0xE100 == 0xBA) = true := by decide +kernel

theorem test_V98 : check 8 ({ code [0xCB, 0x7C] with h := 0x80 }.setF 0x10)
    (fun t => t.f == 0x30 && t.pc == 0xC002) = true := by decide +kernel

theorem test_V101 : check 12 ({ code [0xCB, 0x7E] with h := 0xC1, l := 0x00 }.write 0xC100 0x7F)
    (fun t => t.f == 0xA0 && t.pc == 0xC002) = true := by decide +kernel

theorem test_V102 : check 8 ({ code [0xCB, 0x87] with a := 0xFF }.setF 0xF0)
    (fun t => t.a == 0xFE && t.pc == 0xC002) = true := by decide +kernel

theorem test_V103 : check 16 ({ code [0xCB, 0xBE] with h := 0xC1, l := 0x00 }.write 0xC100 0xFF)
    (fun t => t.pc == 0xC002 && t.read 0xC100 == 0x7F && t.read 0xE100 == 0x7F) = true := by decide +kernel

theorem test_V104 : check 8 { code [0xCB, 0xC7] with a := 0x00 }
    (fun t => t.a == 0x01 && t.pc == 0xC002) = true := by decide +kernel

theorem test_V105 : check 16 ({ code [0xCB, 0xFE] with h := 0xC1, l := 0x00 }.write 0xC100 0x00)
    (fun t => t.pc == 0xC002 && t.read 0xC100 == 0x80 && t.read 0xE100 == 0x80) = true := by decide +kernel

theorem test_V106 : check 16 (code [0xC3, 0x50, 0x01])
    (fun t => t.pc == 0x0150) = true := by decide +kernel

theorem test_V107 : check 12 ((code [0xC2, 0x00, 0xD0]).setF 0x80)
    (fun t => t.pc == 0xC003) = true := by decide +kernel

theorem test_V108 : check 16 ((code [0xC2, 0x00, 0xD0]).setF 0x00)
    (fun t => t.pc == 0xD000) = true := by decide +kernel

theorem test_V110 : check 4 { code [0xE9] with h := 0xC1, l := 0x23 }
    (fun t => t.pc == 0xC123) = true := by decide +kernel

theorem test_V113 : check 12 (code [0x18, 0x80])
    (fun t => t.pc == 0xBF82) = true := by decide +kernel

theorem test_V114 : check 12 ((code [0x20, 0xFC]).setF 0x00)
    (fun t => t.pc == 0xBFFE) = true := by decide +kernel

theorem test_V115 : check 8 ((code [0x20, 0xFC]).setF 0x80)
    (fun t => t.pc == 0xC002) = true := by decide +kernel

theorem test_V118 : check 24 { code [0xCD, 0x34, 0x12] with sp := 0xFFFE }
    (fun t => t.sp == 0xFFFC && t.pc == 0x1234 && t.read 0xFFFC == 0x03 && t.read 0xFFFD == 0xC0) = true := by decide +kernel

theorem test_V119 : check 12 ({ code [0xC4, 0x34, 0x12] with sp := 0xFFFE }.setF 0x80)
    (fun t => t.pc == 0xC003) = true := by decide +kernel

theorem test_V121 : check 16 (({ code [0xC9] with sp := 0xFFFC }.write 0xFFFC 0x03).write 0xFFFD 0xC0)
    (fun t => t.sp == 0xFFFE && t.pc == 0xC003) = true := by decide +kernel

theorem test_V123 : check 20 ((({ code [0xD8] with sp := 0xFFFC }.setF 0x10).write 0xFFFC 0x00).write 0xFFFD 0x02)
    (fun t => t.sp == 0xFFFE && t.pc == 0x0200) = true := by decide +kernel

theorem test_V124 : check 16 (({ code [0xD9] with sp := 0xFFFC }.write 0xFFFC 0x50).write 0xFFFD 0x01)
    (fun t => t.sp == 0xFFFE && t.pc == 0x0150 && t.ime == true) = true := by decide +kernel

theorem test_V125 : check 16 { code [0xFF] with sp := 0xFFFE }
    (fun t => t.sp == 0xFFFC && t.pc == 0x0038 && t.read 0xFFFC == 0x01 && t.read 0xFFFD == 0xC0) = true := by decide +kernel

theorem test_V127 : check 4 (code [0x00])
    (fun t => t.pc == 0xC001) = true := by decide +kernel

theorem test_V128 : check 4 (code [0x76])
    (fun t => t.pc == 0xC001 && t.halted == true) = true := by decide +kernel

theorem test_V129 : check 4 (((code [0x76]).write 0xFFFF 0x04).write 0xFF0F 0x04)
    (fun t => t.pc == 0xC001) = true := by decide +kernel

theorem test_V131 : check 4 (code [0x10, 0xCB])
    (fun t => t.pc == 0xC002 && t.stopped == true) = true := by decide +kernel

theorem test_V132 : check 4 { code [0xF3] with ime := true, imePending := true }
    (fun t => t.pc == 0xC001 && t.ime == false && t.imePending == false) = true := by decide +kernel

theorem test_V133 : check 4 (code [0xFB])
    (fun t => t.pc == 0xC001 && t.imePending == true) = true := by decide +kernel

/-! ### Faults, latches and interrupts -/

/-- The fault of one step, if it is one. -/
def faultOf (cfg : Config) (s : State) : Option Fault :=
  match stepWith cfg s with
  | .next _ => none
  | .fault r => some r
  | .refused _ => none

/-- A build without SWAP A (S7). -/
def noSwapA : Config := { standardConfig with presentExt := fun b => b != 0x37 }

/-- A build without LD B,C. -/
def noLdBC : Config :=
  { standardConfig with presentPrimary := fun b => defaultPresentPrimary b && b != 0x41 }

/-- The default build with interrupt dispatch (R346). -/
def dmg : Config := { standardConfig with interruptDispatch := .dmg }

/-- One step under any parameters. -/
def checkWith (cfg : Config) (s : State) (p : State → Bool) : Bool :=
  match stepWith cfg s with
  | .next t => p t
  | .fault _ => false
  | .refused _ => false

theorem test_V134 : faultOf standardConfig (code [0xD3]) = some (.unimplementedOpcode 0xD3 none) ∧
    stepCycles standardConfig (code [0xD3]) = 0 := by decide +kernel

theorem test_V136 : faultOf standardConfig { code [0xED] with imePending := true } =
    some (.unimplementedOpcode 0xED none) := by decide +kernel

/-- S7: the fault of an extended opcode carries both bytes. -/
theorem test_absent_extended : faultOf noSwapA (code [0xCB, 0x37]) =
    some (.unimplementedOpcode 0xCB (some 0x37)) := by decide +kernel

/-- V137, its second step: the instruction after EI sets IME. -/
theorem test_ei_delay : check 4 { code [0x00] with imePending := true }
    (fun t => t.ime && !t.imePending) = true := by decide +kernel

/-- V138, its second step: DI cancels the enable. -/
theorem test_ei_then_di : check 4 { code [0xF3] with imePending := true }
    (fun t => !t.ime && !t.imePending) = true := by decide +kernel

/-- V139, its second step: the second EI completes the first. -/
theorem test_ei_ei : check 4 { code [0xFB] with imePending := true }
    (fun t => t.ime && !t.imePending) = true := by decide +kernel

/-- V140: the halted step with no request. -/
theorem test_V140 : check 4 { code [0x00] with halted := true }
    (fun t => t.halted && t.pc == 0xC000) = true := by decide +kernel

/-- V141: the stopped step. -/
theorem test_V141 : check 4 { code [0x3C] with stopped := true }
    (fun t => t.stopped && t.pc == 0xC000 && t.a == 0x00) = true := by decide +kernel

/-- V142: VBlank first, PC pushed, IF bit 0 cleared. -/
theorem test_V142 : checkWith dmg
    ((({ code [0x00] with ime := true, sp := 0xD000 }).write 0xFFFF 0x05).write 0xFF0F 0x05)
    (fun t => t.pc == 0x0040 && t.sp == 0xCFFE && !t.ime && t.read 0xFF0F == 0x04 &&
      t.readWord 0xCFFE == 0xC000) = true := by decide +kernel

/-- V145: the entry comes before the halted step. -/
theorem test_V145 : checkWith dmg
    ((({ code [0x00] with ime := true, halted := true, sp := 0xD000 }).write 0xFFFF 0x10).write
      0xFF0F 0x10)
    (fun t => t.pc == 0x0060 && !t.halted && t.read 0xFF0F == 0x00) = true := by decide +kernel

/-- V146: no entry under `none`. -/
theorem test_V146 : check 4
    ((({ code [0x00] with ime := true, sp := 0xD000 }).write 0xFFFF 0x01).write 0xFF0F 0x01)
    (fun t => t.pc == 0xC001 && t.ime) = true := by decide +kernel

/-! ### The address space and the host -/

/-- Both ends of every row of the address map (R61). -/
theorem test_address_map_ends : List.all [
    (0x0000, true, some (.bootimg, 0)),
    (0x3FFF, true, some (.bootimg, 0x3FFF)),
    (0x0000, false, some (.cart, 0)),
    (0x3FFF, false, some (.cart, 0x3FFF)),
    (0x4000, true, some (.cart, 0x4000)),
    (0x7FFF, false, some (.cart, 0x7FFF)),
    (0x8000, true, some (.vram, 0)),
    (0x9FFF, false, some (.vram, 0x1FFF)),
    (0xA000, true, some (.eram, 0)),
    (0xBFFF, false, some (.eram, 0x1FFF)),
    (0xC000, true, some (.wram, 0)),
    (0xDFFF, false, some (.wram, 0x1FFF)),
    (0xE000, true, some (.wram, 0)),
    (0xFDFF, false, some (.wram, 0x1DFF)),
    (0xFE00, true, some (.oam, 0)),
    (0xFE9F, false, some (.oam, 0x9F)),
    (0xFEA0, true, none),
    (0xFEFF, false, none),
    (0xFF00, true, some (.io, 0)),
    (0xFF7F, false, some (.io, 0x7F)),
    (0xFF80, true, some (.hram, 0)),
    (0xFFFE, false, some (.hram, 0x7E)),
    (0xFFFF, true, some (.ie, 0))]
    (fun (x : Word × Bool × Option (Region × Nat)) => resolve x.1 x.2.1 == x.2.2) = true := by
  decide +kernel

/-- V155: a write under the overlay goes to the boot image. -/
theorem test_V155 : (State.reset.write 0x0000 0x5A).read 0x0000 = 0x5A ∧
    ((State.reset.write 0x0000 0x5A).setBootOverlay false).read 0x0000 = 0x00 := by decide +kernel

/-- V161: the gap. -/
theorem test_V161 : (State.reset.write 0xFEA0 0x12).read 0xFEA0 = 0xFF ∧
    State.reset.read 0xFEFF = 0xFF := by decide +kernel

/-- V168: a short load keeps the bytes past its end. -/
theorem test_V168 :
    let s := (((State.reset.loadCartridgeImage [0x11, 0x11, 0x11, 0x11]).1.loadCartridgeImage
      [0x22, 0x22]).1.setBootOverlay false)
    (s.read 0, s.read 1, s.read 2, s.read 3) = (0x22, 0x22, 0x11, 0x11) := by decide +kernel

/-- V169: a word at 0xFFFF wraps to 0x0000. -/
theorem test_V169 : (State.reset.writeWord 0xFFFF 0x1234).readWord 0xFFFF = 0x1234 ∧
    (State.reset.writeWord 0xFFFF 0x1234).read 0x0000 = 0x12 := by decide +kernel

/-- V170: the high byte into the gap. -/
theorem test_V170 : (State.reset.writeWord 0xFE9F 0xBEEF).readWord 0xFE9F = 0xFFEF := by
  decide +kernel

/-- A write of what an unlisted cell reads as removes the entry. -/
theorem test_write_zero_removes :
    ((State.reset.write 0xC000 0x5A).write 0xC000 0x00).mem = [] := by decide +kernel

theorem test_reset_memory : State.reset.mem.wf := by decide

/-! ### Well-formedness -/

theorem test_standard_wf : standardConfig.wf = true := by decide +kernel

theorem test_sparse_wf : noSwapA.wf = true ∧ noLdBC.wf = true ∧ dmg.wf = true := by decide +kernel

/-- Ill-formed: a build that claims one of the eleven undefined bytes. -/
theorem test_wf_refuses_absent :
    ({ standardConfig with presentPrimary := fun b => defaultPresentPrimary b || b == 0xD3 } :
      Config).wf = false := by decide +kernel

/-- Ill-formed: a build that claims a primary descriptor for the prefix. -/
theorem test_wf_refuses_prefix :
    ({ standardConfig with presentPrimary := fun b => defaultPresentPrimary b || b == 0xCB } :
      Config).wf = false := by decide +kernel

/-- Ill-formed: an extended instruction for a build without its descriptor. -/
theorem test_wf_refuses_extended : Instr.swap_A.wf noSwapA = false ∧
    Instr.swap_B.wf noSwapA = true := by decide +kernel

/-- Ill-formed: a primary instruction for a build without its descriptor. -/
theorem test_wf_refuses_primary : Instr.ld_B_C.wf noLdBC = false ∧
    Instr.ld_C_B.wf noLdBC = true := by decide +kernel

/-! ### The words of the opcode table -/

theorem test_table_words : decodeTableWord 8 0x41 = some .ld_B_C ∧
    decodeTableWord 8 0x01 = some (.ld_BC_nn 0) ∧ decodeTableWord 8 0xD3 = none ∧
    decodeTableWord 16 0xCB37 = some .swap_A ∧ decodeTableWord 16 0x37CB = some .swap_A ∧
    decodeTableWord 24 0x12343E = some (.ld_A_n 0x34) := by decide +kernel

/-- The word placed is the next instruction run, from reset. -/
theorem test_withFetchWord : check 4 (State.reset.withFetchWord 8 0x3C)
    (fun t => t.a == 0x01 && t.pc == 0x0001 && t.f == 0x00) = true := by decide +kernel

/-- From a stopped engine with PC in the gap as well. -/
theorem test_withFetchWord_gap : check 8
    (({ State.reset with a := 0xF1, pc := 0xFEA0, stopped := true }).withFetchWord 16 0xCB37)
    (fun t => t.a == 0x1F) = true := by decide +kernel

/-! ### Witnesses of the statements' hypotheses -/

/-- A state with requests in IE and IF. -/
def requesting (ie iflag : Byte) (s : State) : State := (s.write 0xFFFF ie).write 0xFF0F iflag

theorem witness_DecodeOfEncode :
    (Instr.ld_B_B.wf standardConfig = true ∧ encode .ld_B_B <+: [0x40, 0, 0]) ∧
    (Instr.wf standardConfig (.jr_e 0x80) = true ∧ encode (.jr_e 0x80) <+: [0x18, 0x80, 0]) ∧
    (Instr.wf standardConfig (.jp_nn 0xFFFE) = true ∧ encode (.jp_nn 0xFFFE) <+: [0xC3, 0xFE, 0xFF]) ∧
    (Instr.set_7_A.wf standardConfig = true ∧ encode .set_7_A <+: [0xCB, 0xFF, 0]) := by
  decide +kernel

theorem witness_EncodeOfDecode : decode standardConfig 0xFF 0 0 = .instr .rst_38h ∧
    decode standardConfig 0xCB 0xFF 0 = .instr .set_7_A := by decide +kernel

theorem witness_DefaultTables :
    ((code [0xD3]).running standardConfig ∧ (code [0xD3]).read 0xC000 ∈ Claims.absentEleven) ∧
    ((code [0xFD]).running standardConfig ∧ (code [0xFD]).read 0xC000 ∈ Claims.absentEleven) := by
  decide +kernel

theorem witness_PrimaryDispatch : standardConfig.wf = true ∧
    (code [0xFF]).running standardConfig ∧ (code [0xFF]).read 0xC000 ≠ 0xCB ∧
    standardConfig.presentPrimary ((code [0xFF]).read 0xC000) = true ∧
    (code [0xD3]).running standardConfig ∧
    standardConfig.presentPrimary ((code [0xD3]).read 0xC000) = false := by decide +kernel

theorem witness_ExtendedDispatch :
    (code [0xCB, 0xFF]).running standardConfig ∧ (code [0xCB, 0xFF]).read 0xC000 = 0xCB ∧
    standardConfig.presentExt ((code [0xCB, 0xFF]).read 0xC001) = true ∧
    (code [0xCB, 0x37]).running noSwapA ∧ (code [0xCB, 0x37]).read 0xC000 = 0xCB ∧
    noSwapA.presentExt ((code [0xCB, 0x37]).read 0xC001) = false := by decide +kernel

theorem witness_StepRunsDecodedInstruction : State.reset.running standardConfig ∧
    decode standardConfig (State.reset.read 0) (State.reset.read 1) (State.reset.read 2) =
      .instr .nop := by decide +kernel

theorem witness_StoppedStep : { State.reset with stopped := true }.stopped = true ∧
    ((HostOp.setLatches false false false false).apply
      { State.reset with stopped := true }).stopped = false := by decide

theorem witness_HaltedStep :
    ({ State.reset with halted := true }.stopped = false ∧
      { State.reset with halted := true }.pending = 0) ∧
    ((requesting 0x1F 0x10 { State.reset with halted := true }).pending = 0x10 ∧
      (requesting 0x1F 0x10 { State.reset with halted := true }).ime = false) := by decide +kernel

theorem witness_InterruptEntry :
    ((requesting 0x1F 0x1F { State.reset with ime := true }).pending.getLsbD 0 = true ∧
      dmg.interruptDispatch = .dmg) ∧
    ((requesting 0xFF 0xF0 { State.reset with ime := true }).pending.getLsbD 4 = true ∧
      ∀ j < 4, (requesting 0xFF 0xF0 { State.reset with ime := true }).pending.getLsbD j = false) := by
  decide +kernel

theorem witness_ImeUnobservableUnderNone : standardConfig.interruptDispatch = .none ∧
    State.reset.forgetIme = { State.reset with ime := true, imePending := true }.forgetIme := by
  decide

theorem witness_StepKeepsInvariant : State.reset.Inv ∧ ∃ t, step State.reset = .next t :=
  ⟨by decide, _, rfl⟩

theorem witness_HostOpsKeepStorage : State.reset.wf ∧ (State.reset.write 0xFFFF 0x1F).wf := by
  decide +kernel

theorem witness_AccessKeepsBoot : (∃ t, stepWith standardConfig State.reset = .next t) ∧
    ((HostOp.setBootOverlay false).apply State.reset).boot ≠ State.reset.boot :=
  ⟨⟨_, rfl⟩, by decide⟩

theorem witness_WaitStates :
    checkWith standardConfig { State.reset with stopped := true } (fun t => t.stopped) = true ∧
    checkWith standardConfig (code [0x10, 0x00]) (fun t => t.stopped) = true ∧
    checkWith standardConfig (code [0x76]) (fun t => t.halted) = true ∧
    checkWith standardConfig (requesting 0x01 0x01 { code [0x00] with halted := true })
      (fun t => !t.halted) = true ∧
    checkWith standardConfig (requesting 0xE0 0xE0 { code [0x00] with halted := true })
      (fun t => t.halted) = true := by decide +kernel

theorem witness_OnlyEchoPairsShareAByte :
    Claims.sameByte true 0xE000 0xC000 ∧ Claims.sameByte false 0xFDFF 0xDDFF ∧
    (0x0000 : Word).toNat ≤ 0x3FFF ∧ (0x3FFF : Word).toNat ≤ 0x3FFF ∧
    Region.hram.cell 126 = Region.hram.cell 126 ∧ 126 < Region.hram.size :=
  ⟨⟨0xC000, by decide +kernel⟩, ⟨0xDDFF, by decide +kernel⟩, by decide⟩

theorem witness_GapIsOpenBus : Claims.inGap 0xFEA0 ∧ Claims.inGap 0xFEFF := by
  unfold Claims.inGap; decide

theorem witness_ReadAfterWrite : State.reset.mem.wf ∧ Claims.sameByte true 0xE000 0xC000 ∧
    ¬ Claims.sameByte true 0xFEA0 0xFEA0 ∧ cellOf 0xFFFF true ≠ some 0 :=
  ⟨by decide, ⟨0xC000, by decide +kernel⟩,
    fun h => by
      obtain ⟨k, hk, -⟩ := h
      have hn : cellOf 0xFEA0 true = none := by decide +kernel
      exact absurd (hn.symm.trans hk) (fun e => nomatch e),
    by decide +kernel⟩

theorem witness_EchoAliases : State.reset.mem.wf ∧ 0xE000 ≤ (0xE000 : Word).toNat ∧
    (0xFDFF : Word).toNat ≤ 0xFDFF ∧ 0xDE00 ≤ (0xDE00 : Word).toNat ∧
    (0xDFFF : Word).toNat ≤ 0xDFFF := by decide

theorem witness_OverlayWritesReachOneImage : State.reset.mem.wf ∧
    (0x0000 : Word).toNat ≤ 0x3FFF ∧ (0x3FFF : Word).toNat ≤ 0x3FFF := by decide

theorem witness_PopAfterPush : State.reset.mem.wf ∧
    (¬ Claims.inGap ({ State.reset with sp := 0xFFFE }.sp - 1) ∧
      ¬ Claims.inGap ({ State.reset with sp := 0xFFFE }.sp - 2)) ∧
    Claims.inGap ({ State.reset with sp := 0xFEA1 }.sp - 1) ∧
    Claims.inGap ({ State.reset with sp := 0xFF01 }.sp - 2) := by
  unfold Claims.inGap; decide

theorem witness_ImageLoads : State.reset.mem.wf ∧ Region.cart ≠ .bootimg ∧
    32767 < Region.cart.size ∧ Region.bootimg ≠ .cart ∧ 16383 < Region.bootimg.size ∧
    (State.reset.loadBootImage [0x31]).2 = .loaded := by decide

theorem witness_LoadRegister : Instr.ld_B_A.form = .ldRR .b .a ∧
    (Instr.ld_A_n 0xFF).form = .ldRN .a 0xFF ∧ Instr.ld_H_atHL.form = .ldRAtHl .h :=
  ⟨rfl, rfl, rfl⟩

theorem witness_StoreAtHl : Instr.ld_atHL_L.form = .ldAtHlR .l ∧
    (Instr.ld_atHL_n 0xFF).form = .ldAtHlN 0xFF := ⟨rfl, rfl⟩

theorem witness_Load16 : (Instr.ld_BC_nn 0x0000).form = .ldRrNn .bc 0x0000 ∧
    (Instr.ld_SP_nn 0xFFFF).form = .ldRrNn .sp 0xFFFF := ⟨rfl, rfl⟩

theorem witness_PushStores : Instr.push_BC.form = .push .bc ∧ Instr.push_AF.form = .push .af :=
  ⟨rfl, rfl⟩

theorem witness_Additions : Instr.add_A_A.form = .aluR .add .a ∧
    Instr.add_A_atHL.form = .aluAtHl .add ∧ (Instr.add_A_n 0xFF).form = .aluN .add 0xFF ∧
    Instr.adc_A_B.form = .aluR .adc .b ∧ Instr.adc_A_atHL.form = .aluAtHl .adc ∧
    (Instr.adc_A_n 0x00).form = .aluN .adc 0x00 := ⟨rfl, rfl, rfl, rfl, rfl, rfl⟩

theorem witness_Subtractions : Instr.sub_A.form = .aluR .sub .a ∧
    Instr.sub_atHL.form = .aluAtHl .sub ∧ (Instr.sub_n 0xFF).form = .aluN .sub 0xFF ∧
    Instr.sbc_A_B.form = .aluR .sbc .b ∧ Instr.sbc_A_atHL.form = .aluAtHl .sbc ∧
    (Instr.sbc_A_n 0x00).form = .aluN .sbc 0x00 := ⟨rfl, rfl, rfl, rfl, rfl, rfl⟩

theorem witness_Comparisons : Instr.cp_A.form = .aluR .cp .a ∧
    Instr.cp_atHL.form = .aluAtHl .cp ∧ (Instr.cp_n 0xFF).form = .aluN .cp 0xFF :=
  ⟨rfl, rfl, rfl⟩

theorem witness_Logic : Instr.and_A.form = .aluR .and .a ∧ Instr.and_atHL.form = .aluAtHl .and ∧
    (Instr.and_n 0).form = .aluN .and 0 ∧ Instr.xor_B.form = .aluR .xor .b ∧
    Instr.xor_atHL.form = .aluAtHl .xor ∧ (Instr.xor_n 0xFF).form = .aluN .xor 0xFF ∧
    Instr.or_L.form = .aluR .or .l ∧ Instr.or_atHL.form = .aluAtHl .or ∧
    (Instr.or_n 0).form = .aluN .or 0 := ⟨rfl, rfl, rfl, rfl, rfl, rfl, rfl, rfl, rfl⟩

theorem witness_IncrementsAndDecrements : Instr.inc_A.form = .incR .a ∧
    Instr.inc_atHL.form = .incAtHl ∧ Instr.dec_B.form = .decR .b ∧
    Instr.dec_atHL.form = .decAtHl := ⟨rfl, rfl, rfl, rfl⟩

theorem witness_Arithmetic16 : Instr.add_HL_SP.form = .addHlRr .sp ∧
    Instr.inc_BC.form = .incRr .bc ∧ Instr.dec_SP.form = .decRr .sp := ⟨rfl, rfl, rfl⟩

theorem witness_ShiftRegister : Instr.rlc_B.form = .shiftR .rlc .b ∧
    Instr.srl_A.form = .shiftR .srl .a := ⟨rfl, rfl⟩

theorem witness_ShiftAtHl : Instr.rlc_atHL.form = .shiftAtHl .rlc ∧
    Instr.srl_atHL.form = .shiftAtHl .srl := ⟨rfl, rfl⟩

theorem witness_BitTest : Instr.bit_0_B.form = .bitR 0 .b ∧ Instr.bit_7_A.form = .bitR 7 .a ∧
    Instr.bit_7_atHL.form = .bitAtHl 7 := ⟨rfl, rfl, rfl⟩

theorem witness_BitResetAndSet : Instr.res_0_B.form = .resR 0 .b ∧
    Instr.res_7_atHL.form = .resAtHl 7 ∧ Instr.set_7_A.form = .setR 7 .a ∧
    Instr.set_0_atHL.form = .setAtHl 0 := ⟨rfl, rfl, rfl, rfl⟩

theorem witness_Jumps : (Instr.jp_NZ_nn 0).form = .jpCcNn .nz 0 ∧
    (Instr.jr_C_e 0x80).form = .jrCcE .c 0x80 := ⟨rfl, rfl⟩

theorem witness_Calls : (Instr.call_NZ_nn 0).form = .callCcNn .nz 0 ∧
    State.reset.cond .nz = true ∧ State.reset.cond .c = false ∧
    (Instr.call_C_nn 0xFFFF).form = .callCcNn .c 0xFFFF ∧ Instr.rst_00h.form = .rst 0 ∧
    Instr.rst_38h.form = .rst 7 := ⟨rfl, rfl, rfl, rfl, rfl, rfl⟩

theorem witness_Returns : Instr.ret_NZ.form = .retCc .nz ∧ State.reset.cond .nz = true ∧
    Instr.ret_C.form = .retCc .c ∧ State.reset.cond .c = false := ⟨rfl, rfl, rfl, rfl⟩

/-- A store to the overlay's last byte leaves 0x4000, the gap and every other cell. -/
theorem witness_MemoryFrame : State.reset.mem.wf ∧
    (∃ t, exec (.ld_atnn_A 0x3FFF) State.reset = .next t) ∧
    (Instr.form (.ld_atnn_A 0x3FFF)).stores State.reset = [0x3FFF] ∧
    cellOf 0x4000 true ≠ cellOf 0x3FFF true ∧ cellOf 0xFEA0 true = none ∧
    cellOf 0x3FFF true ≠ some 0x3FFF :=
  ⟨by decide, ⟨_, rfl⟩, rfl, by decide +kernel, by decide +kernel, by decide +kernel⟩

theorem witness_FlagFrame : (∃ t, exec .pop_AF State.reset = .next t) ∧
    ∃ t, exec .nop State.reset = .next t := ⟨⟨_, rfl⟩, ⟨_, rfl⟩⟩

theorem witness_RegisterFrame : (∃ t, exec .inc_A State.reset = .next t) ∧
    Reg8.b ∉ Instr.inc_A.form.dests ∧ Instr.inc_A.form.writesSp = false ∧
    Instr.inc_A ≠ .reti ∧ Instr.inc_A ≠ .di ∧ Instr.inc_A ≠ .ei ∧ Instr.inc_A ≠ .halt ∧
    ∀ x, Instr.inc_A ≠ .stop x :=
  ⟨⟨_, rfl⟩, by decide, rfl, by decide, by decide, by decide, by decide, fun _ h => by cases h⟩

theorem witness_PcDiscipline : (Instr.nop.form.branches = false ∧
      ∃ t, exec .nop State.reset = .next t) ∧
    ((Instr.jr_e 0xFE).form.branches = true ∧ Claims.conditionOf (Instr.jr_e 0xFE).form = none ∧
      ∃ t, exec (.jr_e 0xFE) State.reset = .next t ∧ t.pc = State.reset.pc) ∧
    (Claims.conditionOf Instr.ret_NZ.form = some .nz ∧ State.reset.cond .nz = true ∧
      ∃ t, exec .ret_NZ State.reset = .next t) ∧
    (Claims.conditionOf (Instr.jp_C_nn 0xFFFF).form = some .c ∧ State.reset.cond .c = false ∧
      ∃ t, exec (.jp_C_nn 0xFFFF) State.reset = .next t) :=
  ⟨⟨rfl, _, rfl⟩, ⟨rfl, rfl, _, rfl, by decide +kernel⟩, ⟨rfl, rfl, _, rfl⟩, ⟨rfl, rfl, _, rfl⟩⟩

theorem witness_CycleCounts : State.reset.cond .nz = true ∧
    { State.reset with zf := true }.cond .nz = false ∧
    (∃ e, Instr.form (.jr_NZ_e 0x05) = .jrCcE .nz e) ∧
    (∃ nn, Instr.form (.call_NZ_nn 0) = .callCcNn .nz nn) ∧
    (∃ nn, Instr.form (.jp_NZ_nn 0) = .jpCcNn .nz nn) ∧ Instr.ret_NZ.form = .retCc .nz :=
  ⟨rfl, rfl, ⟨_, rfl⟩, ⟨_, rfl⟩, ⟨_, rfl⟩, rfl⟩

end Sys2Proof.Tests
end

section
/-! SUPPORT. The address space (20_memory.md): the decoder row by row, the arrays as disjoint ranges of cells, words as arithmetic on their two bytes, the image loads array by array, and BOOT kept by every operation but the overlay switch. -/

namespace Sys2Proof.Machine

/-! ### The address decoder, row by row (R61) -/

theorem resolve_low {a : Word} (h : a.toNat ≤ 0x3FFF) (boot : Bool) :
    resolve a boot = some (if boot then .bootimg else .cart, a.toNat) := by
  simp (disch := omega) only [resolve, if_pos]
  cases boot <;> rfl

/-- The overlay reaches no address from 0x4000 on (R62). -/
theorem resolve_boot_irrelevant {a : Word} (h : 0x4000 ≤ a.toNat) (boot boot' : Bool) :
    resolve a boot = resolve a boot' := by
  simp (disch := omega) only [resolve, if_neg]

section rows

variable {a : Word} (boot : Bool)

theorem resolve_cart (h : 0x4000 ≤ a.toNat ∧ a.toNat ≤ 0x7FFF) :
    resolve a boot = some (.cart, a.toNat) := by
  simp (disch := omega) only [resolve, if_pos, if_neg]

theorem resolve_vram (h : 0x8000 ≤ a.toNat ∧ a.toNat ≤ 0x9FFF) :
    resolve a boot = some (.vram, a.toNat - 0x8000) := by
  simp (disch := omega) only [resolve, if_pos, if_neg]

theorem resolve_eram (h : 0xA000 ≤ a.toNat ∧ a.toNat ≤ 0xBFFF) :
    resolve a boot = some (.eram, a.toNat - 0xA000) := by
  simp (disch := omega) only [resolve, if_pos, if_neg]

theorem resolve_wram (h : 0xC000 ≤ a.toNat ∧ a.toNat ≤ 0xDFFF) :
    resolve a boot = some (.wram, a.toNat - 0xC000) := by
  simp (disch := omega) only [resolve, if_pos, if_neg]

theorem resolve_echo (h : 0xE000 ≤ a.toNat ∧ a.toNat ≤ 0xFDFF) :
    resolve a boot = some (.wram, a.toNat - 0xE000) := by
  simp (disch := omega) only [resolve, if_pos, if_neg]

theorem resolve_oam (h : 0xFE00 ≤ a.toNat ∧ a.toNat ≤ 0xFE9F) :
    resolve a boot = some (.oam, a.toNat - 0xFE00) := by
  simp (disch := omega) only [resolve, if_pos, if_neg]

theorem resolve_gap (h : Claims.inGap a) : resolve a boot = none := by
  unfold Claims.inGap at h
  simp (disch := omega) only [resolve, if_pos, if_neg]

theorem resolve_io (h : 0xFF00 ≤ a.toNat ∧ a.toNat ≤ 0xFF7F) :
    resolve a boot = some (.io, a.toNat - 0xFF00) := by
  simp (disch := omega) only [resolve, if_pos, if_neg]

theorem resolve_hram (h : 0xFF80 ≤ a.toNat ∧ a.toNat ≤ 0xFFFE) :
    resolve a boot = some (.hram, a.toNat - 0xFF80) := by
  simp (disch := omega) only [resolve, if_pos, if_neg]

theorem resolve_ie (h : a.toNat = 0xFFFF) : resolve a boot = some (.ie, 0) := by
  simp (disch := omega) only [resolve, if_neg]

end rows

/-- The decoder never answers an index past the end of its array (R63). -/
theorem resolve_index_lt {a : Word} {boot : Bool} {r : Region} {k : Nat}
    (h : resolve a boot = some (r, k)) : k < r.size := by
  unfold resolve at h
  simp only at h
  repeat' split at h
  all_goals cases h
  all_goals
    simp only [Region.size]
    omega

/-! ### Cells and addresses -/

theorem cellOf_of_inGap {a : Word} (h : Claims.inGap a) (boot : Bool) : cellOf a boot = none := by
  simp [cellOf, resolve_gap boot h]

/-- The address of a cell: itself, but for the boot image under the overlay and for the echo (R61). -/
theorem toNat_of_cellOf_eq_some {a : Word} {boot : Bool} {k : Nat} (h : cellOf a boot = some k) :
    (a.toNat < 0x4000 ∧ k = a.toNat + if boot then 0x10000 else 0) ∨
    (0xE000 ≤ a.toNat ∧ a.toNat ≤ 0xFDFF ∧ k + 0x2000 = a.toNat) ∨
    (0x4000 ≤ a.toNat ∧ k = a.toNat) := by
  rw [cellOf_eq] at h
  cases boot
  all_goals
    simp only [Bool.false_eq_true, if_true, if_false] at h ⊢
    repeat' split at h
    all_goals simp only [Option.some.injEq, reduceCtorEq] at h
    all_goals omega

theorem toNat_sub_0x2000 {a : Word} (h : 0xE000 ≤ a.toNat) :
    (a - 0x2000).toNat = a.toNat - 0x2000 := by
  bv_omega

/-- An Echo address resolves to what the address 0x2000 below it resolves to (R67). -/
theorem resolve_sub_0x2000_of_echo {a : Word} (h : 0xE000 ≤ a.toNat ∧ a.toNat ≤ 0xFDFF)
    (boot : Bool) : resolve (a - 0x2000) boot = resolve a boot := by
  have ht := toNat_sub_0x2000 h.1
  rw [resolve_echo boot h, resolve_wram boot (by omega), ht]
  simp only [Option.some.injEq, Prod.mk.injEq, true_and]
  omega

/-- Two different addresses of one byte are an Echo pair: off the echo a cell gives its address back (R87). -/
theorem echo_of_sameByte {a b : Word} {boot : Bool} (h : Claims.sameByte boot a b) (hab : a ≠ b) :
    (0xE000 ≤ a.toNat ∧ a.toNat ≤ 0xFDFF ∧ b = a - 0x2000) ∨
    (0xE000 ≤ b.toNat ∧ b.toNat ≤ 0xFDFF ∧ a = b - 0x2000) := by
  obtain ⟨k, ha, hb⟩ := h
  have hne : a.toNat ≠ b.toNat := fun e => hab (BitVec.eq_of_toNat_eq e)
  have hlt : a.toNat < 65536 ∧ b.toNat < 65536 := ⟨a.isLt, b.isLt⟩
  have hcase := And.intro (toNat_of_cellOf_eq_some ha) (toNat_of_cellOf_eq_some hb)
  have hpair : (0xE000 ≤ a.toNat ∧ a.toNat ≤ 0xFDFF ∧ b.toNat = a.toNat - 0x2000) ∨
      (0xE000 ≤ b.toNat ∧ b.toNat ≤ 0xFDFF ∧ a.toNat = b.toNat - 0x2000) := by
    cases boot <;> simp only [Bool.false_eq_true, if_true, if_false] at hcase <;> omega
  refine hpair.imp ?_ ?_
  all_goals
    rintro ⟨hlo, hhi, heq⟩
    exact ⟨hlo, hhi, BitVec.eq_of_toNat_eq (by rw [toNat_sub_0x2000 hlo, heq])⟩

/-- The ranges of cell numbers of two arrays do not meet (R35). -/
theorem Region.cells_apart {r r' : Region} (h : r ≠ r') :
    r.base + r.size ≤ r'.base ∨ r'.base + r'.size ≤ r.base := by
  cases r <;> cases r' <;> revert h <;> decide

theorem Region.cell_inj {r r' : Region} {j j' : Nat} (hj : j < r.size) (hj' : j' < r'.size)
    (h : r.cell j = r'.cell j') : r = r' ∧ j = j' := by
  unfold Region.cell at h
  have hr : r = r' := by
    by_contra hne
    have := Region.cells_apart hne
    omega
  subst hr
  exact ⟨rfl, by omega⟩

/-! ### Accesses -/

theorem read_of_inGap {a : Word} (h : Claims.inGap a) (s : State) : s.read a = openBus := by
  simp [State.read, cellOf_of_inGap h]

theorem write_of_inGap {a : Word} (h : Claims.inGap a) (s : State) (v : Byte) :
    s.write a v = s := by
  simp [State.write, cellOf_of_inGap h]

theorem write_of_cellOf {s : State} {a : Word} {k : Nat} (h : cellOf a s.boot = some k) (v : Byte) :
    s.write a v = { s with mem := s.mem.poke k v } := by
  simp [State.write, h]

/-! ### Words as arithmetic on bytes (R7) -/

theorem joinBytes_eq_pairOf (hi lo : Byte) : joinBytes hi lo = Claims.pairOf hi lo := by
  apply BitVec.eq_of_toNat_eq
  have hl : lo.toNat < 2 ^ 8 := lo.isLt
  have hh : hi.toNat < 2 ^ 8 := hi.isLt
  rw [joinBytes, BitVec.toNat_append, ← Nat.shiftLeft_add_eq_or_of_lt hl, Nat.shiftLeft_eq,
    Claims.pairOf, BitVec.toNat_ofNat]
  omega

theorem loByte_eq_ofNat (v : Word) : loByte v = BitVec.ofNat 8 (v.toNat % 256) := by
  apply BitVec.eq_of_toNat_eq
  simp [loByte, BitVec.extractLsb'_toNat]

theorem hiByte_eq_ofNat (v : Word) : hiByte v = BitVec.ofNat 8 (v.toNat / 256) := by
  apply BitVec.eq_of_toNat_eq
  simp [hiByte, BitVec.extractLsb'_toNat, Nat.shiftRight_eq_div_pow]

theorem readWord_eq_pairOf (s : State) (a : Word) :
    s.readWord a = Claims.pairOf (s.read (a + 1)) (s.read a) :=
  joinBytes_eq_pairOf _ _

/-! ### The image loads, array by array (R82 to R84) -/

/-- A load fills its own array from the buffer, as far as the buffer goes. -/
theorem loadRegion_byteOf_same {s : State} (hs : s.mem.wf) {r : Region} (bytes : List Byte)
    {k : Nat} (hk : k < r.size) :
    (s.loadRegion r bytes).1.byteOf r k = bytes.getD k (s.byteOf r k) := by
  have hle : r.base ≤ r.cell k := Nat.le_add_right _ _
  have hidx : r.cell k - r.base = k := Nat.add_sub_cancel_left _ _
  rw [State.byteOf, loadRegion_peek hs, if_pos hle, hidx, State.byteOf]
  simp only [List.getD_eq_getElem?_getD, List.getElem?_take_of_lt hk]

/-- A load leaves every other array alone: its run of bytes ends inside its own. -/
theorem loadRegion_byteOf_other {s : State} (hs : s.mem.wf) {r r' : Region} (bytes : List Byte)
    {k : Nat} (hr : r' ≠ r) (hk : k < r'.size) :
    (s.loadRegion r bytes).1.byteOf r' k = s.byteOf r' k := by
  rw [State.byteOf, loadRegion_peek hs, State.byteOf]
  split
  case isTrue hle =>
    have hlen : (bytes.take r.size).length ≤ r.size := List.length_take_le _ _
    have hpast : r.size ≤ r'.cell k - r.base := by
      have := Region.cells_apart hr
      unfold Region.cell at hle ⊢
      omega
    exact List.getD_eq_default _ _ (hlen.trans hpast)
  case isFalse => rfl

theorem loadRegion_imageTooLarge_iff (s : State) (r : Region) (bytes : List Byte) :
    (s.loadRegion r bytes).2 = .imageTooLarge ↔ r.size < bytes.length := by
  simp [State.loadRegion]

/-! ### BOOT (R86) -/

@[simp] theorem applyAlu_boot (op : AluOp) (v : Byte) (s : State) :
    (applyAlu op v s).boot = s.boot := by cases op <;> rfl

@[simp] theorem storeA_boot (addr len : Word) (s : State) : (storeA addr len s).boot = s.boot := by
  simp [storeA]

@[simp] theorem eiDelay_boot (s : State) (p : Bool) (i : Instr) :
    (s.eiDelay p i).boot = s.boot := by rw [eiDelay_eq]

@[simp] theorem haltedStep_boot (s : State) : s.haltedStep.boot = s.boot := by rw [haltedStep_eq]

@[simp] theorem interruptEntry_boot (s : State) : s.interruptEntry.boot = s.boot := by
  simp [interruptEntry_eq]

/-- No routine writes BOOT: what it changes it changes by the operations of the state, and none of them does. -/
@[simp] theorem runForm_boot (f : Form) (s : State) : (runForm f s).boot = s.boot := by
  cases f with
  | ldRR | ldRN | ldRAtHl | ldAtHlR | ldAtHlN | ldAtHlIncA | ldAtHlDecA =>
    simp [runForm, runLdRR, runLdRN, runLdRAtHl, runLdAtHlR, runLdAtHlN, runLdAtHlIncA,
      runLdAtHlDecA]
  | ldAtBcA | ldAtDeA | ldAtNnA | ldhAtCA | ldhAtNA =>
    simp [runForm, runLdAtBcA, runLdAtDeA, runLdAtNnA, runLdhAtCA, runLdhAtNA]
  | ldRrNn | ldAtNnSp | push | pop =>
    simp [runForm, runLdRrNn, runLdAtNnSp, runPush, runPop, State.pop16]
  | aluR | aluAtHl | aluN | incR | incAtHl | decR | decAtHl =>
    simp [runForm, runAluR, runAluAtHl, runAluN, runIncR, runIncAtHl, runDecR, runDecAtHl]
  | incRr | decRr => simp [runForm, runIncRr, runDecRr]
  | shiftR | shiftAtHl | resR | resAtHl | setR | setAtHl =>
    simp [runForm, runShiftR, runShiftAtHl, runResR, runResAtHl, runSetR, runSetAtHl]
  | callNn | rst => simp [runForm, runCallNn, runRst]
  | jpCcNn | jrCcE | retCc | halt =>
    simp only [runForm, runJpCcNn, runJrCcE, runRetCc, runHalt]
    split <;> rfl
  | callCcNn =>
    simp only [runForm, runCallCcNn, runCallNn]
    split <;> simp
  | _ => rfl

/-- A step keeps BOOT, whichever of its cases it takes. -/
theorem stepWith_boot {cfg : Config} {s t : State} (h : stepWith cfg s = .next t) :
    t.boot = s.boot := by
  have hcase := stepWith_cases cfg s
  rw [h] at hcase
  cases hcase with
  | stopped => rfl
  | interrupt => simp
  | halted => simp
  | routine => simp

/-- Of the host's operations the overlay switch alone writes BOOT (R85, R90). -/
theorem HostOp.boot_apply {op : HostOp} (hop : ∀ v, op ≠ .setBootOverlay v) (s : State) :
    (op.apply s).boot = s.boot := by
  cases op with
  | write | writeWord | setR8 | setFlags => simp [HostOp.apply]
  | setBootOverlay v => exact absurd rfl (hop v)
  | loadBootImage | loadCartridgeImage | setPc | setSp | setLatches => rfl

end Sys2Proof.Machine

namespace Sys2Proof

open Machine

/-- Settles O16: the accesses and every case of a step keep BOOT; 0xFF50 is a cell like any other. -/
theorem accessKeepsBoot : Obligations.AccessKeepsBoot := by
  refine ⟨write_boot, fun s v => ?_, fun _ _ _ => stepWith_boot, fun op s hne => ?_⟩
  · have hcell : cellOf 0xFF50 s.boot = some (Region.io.cell 0x50) := by
      rw [cellOf, resolve_io s.boot (by decide)]; rfl
    exact write_of_cellOf hcell v
  · by_contra hop
    exact hne (HostOp.boot_apply (fun v e => hop ⟨v, e⟩) s)

/-- Settles O20: one equation of the decoder per row of the map. -/
theorem addressMap : Obligations.AddressMap :=
  ⟨fun _ boot =>
    ⟨fun h => ⟨resolve_low h true, resolve_low h false⟩,
      fun h => resolve_boot_irrelevant h true false,
      resolve_cart boot, resolve_vram boot, resolve_eram boot, resolve_wram boot,
      resolve_echo boot, resolve_oam boot, resolve_gap boot, resolve_io boot, resolve_hram boot,
      resolve_ie boot⟩,
    fun _ _ _ _ => resolve_index_lt⟩

/-- Settles O21: off the echo a cell's number gives its address back, and the arrays' cells do not meet. -/
theorem onlyEchoPairsShareAByte : Obligations.OnlyEchoPairsShareAByte := by
  refine ⟨fun a boot hlo hhi => ?_, fun a h => resolve_low h false,
    fun _ _ _ => echo_of_sameByte, fun _ _ _ _ => Region.cell_inj⟩
  have hpair := resolve_sub_0x2000_of_echo ⟨hlo, hhi⟩ boot
  refine ⟨hpair.symm, Region.wram.cell (a.toNat - 0xE000), ?_, ?_⟩
  · rw [cellOf, resolve_echo boot ⟨hlo, hhi⟩]; rfl
  · rw [cellOf, hpair, resolve_echo boot ⟨hlo, hhi⟩]; rfl

/-- Settles O28: what a load does to its own array and to the others, for the two images. -/
theorem imageLoads : Obligations.ImageLoads :=
  fun s bytes hs =>
    ⟨fun _ => loadRegion_byteOf_same hs (r := .bootimg) bytes,
      fun _ _ => loadRegion_byteOf_other hs bytes,
      fun _ => loadRegion_byteOf_same hs (r := .cart) bytes,
      fun _ _ => loadRegion_byteOf_other hs bytes,
      rfl, rfl,
      loadRegion_imageTooLarge_iff s .bootimg bytes,
      loadRegion_imageTooLarge_iff s .cart bytes⟩

/-- Settles O22: the decoder answers no cell in the gap. -/
theorem gapIsOpenBus : Obligations.GapIsOpenBus :=
  fun s _ v h => ⟨read_of_inGap h s, write_of_inGap h s v⟩

/-- Settles O26: the two bytes of a word in arithmetic; 0xFFFF + 1 is 0 in a 16-bit address. -/
theorem wordsAreLittleEndian : Obligations.WordsAreLittleEndian := by
  refine fun s a v => ⟨readWord_eq_pairOf s a, ?_, readWord_eq_pairOf s 0xFFFF⟩
  rw [State.writeWord, loByte_eq_ofNat, hiByte_eq_ofNat]

end Sys2Proof
end

section
/-! SUPPORT. Where PC goes (R105): every routine that does not branch moves it by its length, a branch that is taken to its target. -/

namespace Sys2Proof

open Machine

theorem encodeForm_length (f : Form) :
    1 ≤ (encodeForm f).length ∧ (encodeForm f).length ≤ 3 := by
  cases f <;> simp [encodeForm, immBytes]

theorem branches_of_conditionOf {f : Form} {cc : Cond} (h : Claims.conditionOf f = some cc) :
    f.branches = true := by
  cases f with
  | jpCcNn | jrCcE | callCcNn | retCc => rfl
  | _ => cases h

/-- The displacement of a relative branch, added on unbounded integers or as a sign-extended word (R293). -/
theorem relative_eq (s : State) (e : Byte) : Claims.relative s e = s.pc + 2 + sext e := by
  have he : BitVec.ofInt 16 e.toInt = sext e := rfl
  rw [Claims.relative, BitVec.ofInt_add, BitVec.ofInt_add, he, BitVec.ofInt_natCast,
    BitVec.ofNat_toNat, BitVec.setWidth_eq]
  rfl

namespace Machine

@[simp] theorem applyAlu_pc (op : AluOp) (v : Byte) (s : State) : (applyAlu op v s).pc = s.pc := by
  cases op <;> rfl

@[simp] theorem storeA_pc (addr len : Word) (s : State) :
    (storeA addr len s).pc = s.pc + len := by
  simp [storeA]

/-- A routine that does not branch adds its own length to PC (R105). -/
theorem runForm_pc_of_not_branches {f : Form} (h : f.branches = false) (s : State) :
    (runForm f s).pc = s.pc + BitVec.ofNat 16 (encodeForm f).length := by
  cases f with
  | jpNn | jpCcNn | jpHl | jrE | jrCcE | callNn | callCcNn | ret | retCc | reti | rst => cases h
  | ldRR | ldRN | ldRAtHl | ldAtHlR | ldAtHlN | ldAtHlIncA | ldAtHlDecA =>
    simp [runForm, encodeForm, runLdRR, runLdRN, runLdRAtHl, runLdAtHlR, runLdAtHlN,
      runLdAtHlIncA, runLdAtHlDecA]
  | ldAtBcA | ldAtDeA | ldAtNnA | ldhAtCA | ldhAtNA =>
    simp [runForm, encodeForm, immBytes, runLdAtBcA, runLdAtDeA, runLdAtNnA, runLdhAtCA,
      runLdhAtNA]
  | ldRrNn | ldAtNnSp | push | pop =>
    simp [runForm, encodeForm, immBytes, runLdRrNn, runLdAtNnSp, runPush, runPop, State.pop16]
  | aluR | aluAtHl | aluN | incR | incAtHl | decR | decAtHl =>
    simp [runForm, encodeForm, runAluR, runAluAtHl, runAluN, runIncR, runIncAtHl, runDecR,
      runDecAtHl]
  | incRr | decRr => simp [runForm, encodeForm, runIncRr, runDecRr]
  | shiftR | shiftAtHl | resR | resAtHl | setR | setAtHl =>
    simp [runForm, encodeForm, runShiftR, runShiftAtHl, runResR, runResAtHl, runSetR, runSetAtHl]
  | halt =>
    simp only [runForm, runHalt]
    split <;> rfl
  | _ => rfl

/-- An unconditional branch sets PC to its target (R290, R292, R293, R295, R297, R299, R300). -/
theorem runForm_pc_of_unconditional {f : Form} (h : f.branches = true)
    (hc : Claims.conditionOf f = none) (s : State) : (runForm f s).pc = Claims.target s f := by
  cases f with
  | jpNn | jpHl | callNn | rst => rfl
  | jrE e => exact (relative_eq s e).symm
  | ret | reti => exact joinBytes_eq_pairOf _ _
  | jpCcNn | jrCcE | callCcNn | retCc => cases hc
  | _ => cases h

/-- A conditional branch tests its condition on the flags before (R29, R291, R294, R296, R298). -/
theorem runForm_pc_of_conditionOf {f : Form} {cc : Cond} (hc : Claims.conditionOf f = some cc)
    (s : State) :
    (runForm f s).pc =
      if s.cond cc then Claims.target s f
      else s.pc + BitVec.ofNat 16 (encodeForm f).length := by
  cases f with
  | jpCcNn =>
    cases hc
    simp only [runForm, runJpCcNn]
    split <;> rfl
  | callCcNn =>
    cases hc
    simp only [runForm, runCallCcNn]
    split <;> rfl
  | jrCcE =>
    cases hc
    simp only [runForm, runJrCcE, Claims.target, relative_eq]
    split <;> rfl
  | retCc =>
    cases hc
    simp only [runForm, runRetCc, Claims.target, ← joinBytes_eq_pairOf]
    split <;> rfl
  | _ => cases hc

end Machine

theorem add_encodeForm_length_ne (f : Form) (w : Word) :
    w + BitVec.ofNat 16 (encodeForm f).length ≠ w := by
  obtain ⟨hlo, hhi⟩ := encodeForm_length f
  bv_omega

/-- What leaves PC as it was is a branch to the instruction itself (R105). -/
theorem branches_of_pc_eq {f : Form} {s : State} (h : (runForm f s).pc = s.pc) :
    f.branches = true ∧ Claims.target s f = s.pc := by
  have hmoved := add_encodeForm_length_ne f s.pc
  cases hc : Claims.conditionOf f with
  | some cc =>
    rw [runForm_pc_of_conditionOf hc] at h
    split at h
    · exact ⟨branches_of_conditionOf hc, h⟩
    · exact absurd h hmoved
  | none =>
    cases hb : f.branches with
    | true => exact ⟨rfl, runForm_pc_of_unconditional hb hc s ▸ h⟩
    | false => exact absurd (runForm_pc_of_not_branches hb s ▸ h) hmoved

/-- Settles O59: the three ways a routine moves PC, and the lengths of the encodings. -/
theorem pcDiscipline : Obligations.PcDiscipline := by
  intro i s t ht
  rw [exec_eq_runForm] at ht
  cases ht
  exact ⟨fun hb => runForm_pc_of_not_branches hb s,
    fun hb hc => runForm_pc_of_unconditional hb hc s,
    fun _ hc => runForm_pc_of_conditionOf hc s,
    encodeForm_length i.form, branches_of_pc_eq⟩

end Sys2Proof
end

section
/-! SUPPORT. Dispatch (R102, R103): the two opcode maps cell by cell, what each table answers for a byte, and the step on it. -/

namespace Sys2Proof

open Machine

/-! ### The default tables (R118, R119) -/

theorem defaultPresentPrimary_iff (b : Byte) :
    defaultPresentPrimary b = true ↔ b ≠ 0xCB ∧ b ∉ Claims.absentEleven := by
  simp [defaultPresentPrimary, prefixByte, absentPrimary, Claims.absentEleven]

theorem mem_allBytes (b : Byte) : b ∈ allBytes :=
  List.mem_map.2 ⟨b.toNat, List.mem_range.2 b.isLt,
    by rw [BitVec.ofNat_toNat, BitVec.setWidth_eq]⟩

/-- A well-formed build has no descriptor beyond the default ones (R119). -/
theorem defaultPresentPrimary_of_wf {cfg : Config} (hwf : cfg.wf = true) {b : Byte}
    (hb : cfg.presentPrimary b = true) : defaultPresentPrimary b = true := by
  have h := List.all_eq_true.1 hwf b (mem_allBytes b)
  simpa [hb] using h

/-! ### The opcode maps, cell by cell -/

/-- What stands at the byte `b` of the primary map: an instruction that is encoded by `b` and its own immediate, or no descriptor if the default table has none (R106, R107, R118). -/
def Entry.EncodedAt (b n : Byte) (nn : Word) : Entry → Prop
  | .absent => defaultPresentPrimary b = false
  | .op i => encode i = [b]
  | .imm8 mk => encode (mk n) = [b, n]
  | .imm16 mk => encode (mk nn) = b :: immBytes nn

/-- One case for each of the 256 cells; in each, both sides evaluate to the same bytes. -/
theorem primaryMap_encodedAt (b n : Byte) (nn : Word) :
    ∃ e, cellAt primaryMap b = some e ∧ e.EncodedAt b n nn := by
  obtain ⟨k⟩ := b
  fin_cases k <;> exact ⟨_, rfl, rfl⟩

/-- The same for the byte after 0xCB, with the group of the instruction there (R113). -/
theorem extMap_encodedAt (b : Byte) :
    ∃ i, cellAt extMap b = some i ∧ encode i = [0xCB, b] ∧
      Claims.extGroup i.form = b.toNat / 64 := by
  obtain ⟨k⟩ := b
  fin_cases k <;> exact ⟨_, rfl, rfl, rfl⟩

/-! ### What the decoder answers -/

theorem decodePrimary_of_not_present {cfg : Config} {b0 : Byte}
    (h : cfg.presentPrimary b0 = false) (b1 b2 : Byte) :
    decodePrimary cfg b0 b1 b2 = .unimplemented b0 none := by
  simp [decodePrimary, h]

theorem decodePrimary_of_present {cfg : Config} {b0 : Byte} (h : cfg.presentPrimary b0 = true)
    (hdef : defaultPresentPrimary b0 = true) (b1 b2 : Byte) :
    ∃ i, decodePrimary cfg b0 b1 b2 = .instr i ∧ encode i <+: [b0, b1, b2] := by
  obtain ⟨e, hcell, he⟩ := primaryMap_encodedAt b0 b1 (joinBytes b2 b1)
  simp only [decodePrimary, h, hcell, if_true]
  cases e with
  | absent => exact Bool.noConfusion (hdef.symm.trans he)
  | op i => exact ⟨i, rfl, [b1, b2], congrArg (· ++ _) he⟩
  | imm8 mk => exact ⟨_, rfl, [b2], congrArg (· ++ _) he⟩
  | imm16 mk =>
    have hbytes : encode (mk (joinBytes b2 b1)) = [b0, b1, b2] := by
      simpa [Entry.EncodedAt, immBytes] using he
    exact ⟨_, rfl, hbytes ▸ List.prefix_rfl⟩

theorem decodeExt_of_not_present {cfg : Config} {b1 : Byte} (h : cfg.presentExt b1 = false) :
    decodeExt cfg b1 = .unimplemented 0xCB (some b1) := by
  simp [decodeExt, h, prefixByte]

theorem decodeExt_of_present {cfg : Config} {b1 : Byte} (h : cfg.presentExt b1 = true) :
    ∃ i, decodeExt cfg b1 = .instr i ∧ encode i = [0xCB, b1] ∧
      Claims.extGroup i.form = b1.toNat / 64 := by
  obtain ⟨i, hcell, hi⟩ := extMap_encodedAt b1
  exact ⟨i, by simp [decodeExt, h, hcell], hi⟩

namespace Machine

/-! ### The step on what it fetches -/

theorem fetch_of_ne_prefix {s : State} (h : s.read s.pc ≠ 0xCB) (cfg : Config) :
    s.fetch cfg =
      decodePrimary cfg (s.read s.pc) (s.read (s.pc + 1)) (s.read (s.pc + 2)) :=
  if_neg h

theorem fetch_of_prefix {s : State} (h : s.read s.pc = 0xCB) (cfg : Config) :
    s.fetch cfg = decodeExt cfg (s.read (s.pc + 1)) :=
  if_pos h

/-- The EI delay as the statements write it: DI is the one instruction that does not complete it (R327). -/
theorem delayed_eq_eiDelay (s : State) (i : Instr) (t : State) :
    Claims.delayed s i t = t.eiDelay s.imePending i := by
  have hdi : isDi i = true ↔ i = .di := (isDi_iff i).trans (form_eq_di_iff i)
  simp [Claims.delayed, State.eiDelay, ← hdi]

theorem stepRuns_of_fetch {cfg : Config} {s : State} {i : Instr} (hr : s.running cfg)
    (hf : s.fetch cfg = .instr i) : Claims.stepRuns cfg s i :=
  ⟨runForm i.form s, exec_eq_runForm i s, by rw [delayed_eq_eiDelay, stepWith_of_fetch hr hf]⟩

/-- A first byte without a descriptor is the fault that carries it (R102). -/
theorem stepWith_of_primary_not_present {cfg : Config} {s : State} (hr : s.running cfg)
    (hne : s.read s.pc ≠ 0xCB) (hp : cfg.presentPrimary (s.read s.pc) = false) :
    stepWith cfg s = .fault (.unimplementedOpcode (s.read s.pc) none) :=
  stepWith_of_absent hr <| by rw [fetch_of_ne_prefix hne, decodePrimary_of_not_present hp]

end Machine

/-- Settles O5: a byte of the set is a byte of the default set, where the map has a row. -/
theorem primaryDispatch : Obligations.PrimaryDispatch := by
  refine fun cfg s hwf hr hne => ⟨fun hp => ?_, stepWith_of_primary_not_present hr hne⟩
  obtain ⟨i, hdec, hbytes⟩ := decodePrimary_of_present hp (defaultPresentPrimary_of_wf hwf hp)
    (s.read (s.pc + 1)) (s.read (s.pc + 2))
  exact ⟨i, hbytes, stepRuns_of_fetch hr (by rw [fetch_of_ne_prefix hne, hdec])⟩

/-- Settles O6: the extended map has a row at every byte, and the default set every byte. -/
theorem extendedDispatch : Obligations.ExtendedDispatch := by
  have hruns : ∀ (cfg : Config) (s : State), s.running cfg → s.read s.pc = 0xCB →
      cfg.presentExt (s.read (s.pc + 1)) = true →
      ∃ i, encode i = [0xCB, s.read (s.pc + 1)] ∧ Claims.stepRuns cfg s i := by
    intro cfg s hr hpre hp
    obtain ⟨i, hdec, hbytes, -⟩ := decodeExt_of_present hp
    exact ⟨i, hbytes, stepRuns_of_fetch hr (by rw [fetch_of_prefix hpre, hdec])⟩
  refine ⟨fun cfg s hr hpre => ⟨hruns cfg s hr hpre, fun hp => ?_⟩, fun s hr hpre => ?_⟩
  · exact stepWith_of_absent hr (by rw [fetch_of_prefix hpre, decodeExt_of_not_present hp])
  · obtain ⟨i, -, t, -, hstep⟩ := hruns standardConfig s hr hpre rfl
    exact ⟨_, hstep⟩

/-- Settles O4: the two sets, the groups of the extended map, and the fault of a byte outside the primary set. -/
theorem defaultTables : Obligations.DefaultTables := by
  refine ⟨rfl, rfl, defaultPresentPrimary_iff, by decide +kernel, fun _ => rfl,
    fun b1 b2 => ?_, fun s hr hmem => ?_⟩
  · obtain ⟨i, hdec, -, hgroup⟩ := decodeExt_of_present (cfg := standardConfig) (b1 := b1) rfl
    exact ⟨i, hdec, hgroup⟩
  · have hne : s.read s.pc ≠ 0xCB := fun h => absurd (h ▸ hmem) (by decide)
    have habsent : defaultPresentPrimary (s.read s.pc) = false := by
      rw [← Bool.not_eq_true, defaultPresentPrimary_iff]
      exact fun h => h.2 hmem
    exact stepWith_of_primary_not_present hr hne habsent

end Sys2Proof
end

section
/-! SUPPORT. Loads and stores (41_load8.md): a row settled through its form, the shared operations on a register and on a byte of memory as one next state, and the addresses in arithmetic. -/

namespace Sys2Proof

open Machine

/-- A row is settled through its form: what the rule of the form answers, its bytes and its count. -/
theorem exec_and_coded_of_form {i : Instr} {f : Form} {s t : State} {bytes : List Byte}
    {cycles : Nat} (h : i.form = f) (hrun : runForm f s = t) (hbytes : encodeForm f = bytes)
    (hcycles : f.cycles s = cycles) :
    exec i s = .next t ∧ Claims.coded i s bytes cycles := by
  subst h hrun hbytes hcycles
  exact ⟨exec_eq_runForm i s, rfl, rfl⟩

theorem immBytes_eq_immediate (nn : Word) : immBytes nn = Claims.immediate nn := by
  rw [immBytes, loByte_eq_ofNat, hiByte_eq_ofNat, Claims.immediate]

namespace Machine

/-! ### The addresses in arithmetic -/

theorem bc_eq_pairOf (s : State) : s.bc = Claims.pairOf s.b s.c := joinBytes_eq_pairOf _ _

theorem de_eq_pairOf (s : State) : s.de = Claims.pairOf s.d s.e := joinBytes_eq_pairOf _ _

theorem hl_eq_pairOf (s : State) : s.hl = Claims.pairOf s.h s.l := joinBytes_eq_pairOf _ _

theorem highPage_eq_ofNat (n : Byte) : highPage n = BitVec.ofNat 16 (0xFF00 + n.toNat) := by
  rw [BitVec.ofNat_add, BitVec.ofNat_toNat]
  rfl

theorem add_one_eq_ofNat (w : Word) : w + 1 = BitVec.ofNat 16 (w.toNat + 1) := by
  bv_omega

/-- One less, wrapping, is 65535 more (R7). -/
theorem sub_one_eq_ofNat (w : Word) : w - 1 = BitVec.ofNat 16 (w.toNat + 65535) := by
  bv_omega

/-! ### A register or a byte of memory written, and PC moved -/

/-- A register write touches no field but the seven registers (R21). -/
theorem setR8_restore_registers (s : State) (r : Reg8) (v : Byte) :
    { s.setR8 r v with
      a := s.a, b := s.b, c := s.c, d := s.d, e := s.e, h := s.h, l := s.l } = s := by
  cases r <;> rfl

theorem advance_of_pc_eq {s : State} {p : Word} (h : s.pc = p) (n : Word) :
    s.advance n = { s with pc := p + n } := by
  rw [State.advance, h]

theorem setR8_advance (s : State) (r : Reg8) (v : Byte) (n : Word) :
    (s.setR8 r v).advance n = { s.setR8 r v with pc := s.pc + n } :=
  advance_of_pc_eq (setR8_pc s r v) n

theorem write_advance (s : State) (a : Word) (v : Byte) (n : Word) :
    (s.write a v).advance n = { s.write a v with pc := s.pc + n } :=
  advance_of_pc_eq (write_pc s a v) n

theorem loadA_eq_of_addr_eq {addr addr' : Word} (h : addr = addr') (len : Word) (s : State) :
    loadA addr len s = { s with a := s.read addr', pc := s.pc + len } := by
  subst h
  rfl

theorem storeA_eq_of_addr_eq {addr addr' : Word} (h : addr = addr') (len : Word) (s : State) :
    storeA addr len s = { s.write addr' s.a with pc := s.pc + len } := by
  subst h
  exact write_advance s addr s.a len

/-- A stored at HL and HL then set: the write leaves PC as it was (R155, R156). -/
theorem write_setHl_advance (s : State) (a : Word) (v : Byte) (w n : Word) :
    ((s.write a v).setHl w).advance n = { (s.write a v).setHl w with pc := s.pc + n } :=
  advance_of_pc_eq ((setHl_pc _ _).trans (write_pc s a v)) n

end Machine

/-- Settles O31: the registers by name, and the three forms as a register write and a move of PC. -/
theorem loadRegister : Obligations.LoadRegister := by
  refine ⟨fun s => ⟨rfl, rfl, rfl, rfl, rfl, rfl, rfl⟩,
    fun s r q v => ⟨r8_setR8 s r q v, setR8_restore_registers s r v⟩,
    fun i dst src s h => ?_, fun i dst n s h => ?_, fun i dst s h => ?_⟩
  · exact exec_and_coded_of_form h (setR8_advance s dst (s.r8 src) 1) rfl rfl
  · exact exec_and_coded_of_form h (setR8_advance s dst n 2) rfl rfl
  · rw [← hl_eq_pairOf]
    exact exec_and_coded_of_form h (setR8_advance s dst (s.read s.hl) 1) rfl rfl

/-- Settles O32: both forms write one byte at HL and move PC. -/
theorem storeAtHl : Obligations.StoreAtHl := by
  refine ⟨fun i src s h => ?_, fun i n s h => ?_⟩ <;> rw [← hl_eq_pairOf]
  · exact exec_and_coded_of_form h (write_advance s s.hl (s.r8 src) 1) rfl rfl
  · exact exec_and_coded_of_form h (write_advance s s.hl n 2) rfl rfl

/-- Settles O33: the five rows load A, each from its address. -/
theorem loadAccumulator : Obligations.LoadAccumulator :=
  ⟨fun s => exec_and_coded_of_form rfl (loadA_eq_of_addr_eq (bc_eq_pairOf s) 1 s) rfl rfl,
    fun s => exec_and_coded_of_form rfl (loadA_eq_of_addr_eq (de_eq_pairOf s) 1 s) rfl rfl,
    fun nn s => exec_and_coded_of_form rfl (loadA_eq_of_addr_eq rfl 3 s)
      (congrArg _ (immBytes_eq_immediate nn)) rfl,
    fun s => exec_and_coded_of_form rfl (loadA_eq_of_addr_eq (highPage_eq_ofNat s.c) 1 s) rfl rfl,
    fun n s => exec_and_coded_of_form rfl (loadA_eq_of_addr_eq (highPage_eq_ofNat n) 2 s) rfl rfl⟩

/-- Settles O34: the five rows store A, each at its address. -/
theorem storeAccumulator : Obligations.StoreAccumulator :=
  ⟨fun s => exec_and_coded_of_form rfl (storeA_eq_of_addr_eq (bc_eq_pairOf s) 1 s) rfl rfl,
    fun s => exec_and_coded_of_form rfl (storeA_eq_of_addr_eq (de_eq_pairOf s) 1 s) rfl rfl,
    fun nn s => exec_and_coded_of_form rfl (storeA_eq_of_addr_eq rfl 3 s)
      (congrArg _ (immBytes_eq_immediate nn)) rfl,
    fun s => exec_and_coded_of_form rfl (storeA_eq_of_addr_eq (highPage_eq_ofNat s.c) 1 s) rfl rfl,
    fun n s => exec_and_coded_of_form rfl (storeA_eq_of_addr_eq (highPage_eq_ofNat n) 2 s) rfl rfl⟩

/-- Settles O35: the access is at the HL before; the step of HL is one more or one less as words. The two loads write fields only, so their next states agree by computation. -/
theorem accessAndStepHl : Obligations.AccessAndStepHl := by
  intro s
  rw [← add_one_eq_ofNat, ← sub_one_eq_ofNat]
  exact ⟨exec_and_coded_of_form rfl (write_setHl_advance s s.hl s.a (s.hl + 1) 1) rfl rfl,
    exec_and_coded_of_form rfl (write_setHl_advance s s.hl s.a (s.hl - 1) 1) rfl rfl,
    exec_and_coded_of_form rfl rfl rfl rfl,
    exec_and_coded_of_form rfl rfl rfl rfl⟩

end Sys2Proof
end

section
/-! SUPPORT. 16-bit loads and the stack (42_load16_stack.md): a pair written, a word stored, a pair pushed by its two halves and a pair popped into them. -/

namespace Sys2Proof

open Machine

namespace Machine

/-! ### A pair written or a word stored, and PC moved -/

theorem setR16_advance (s : State) (p : Reg16) (v n : Word) :
    (s.setR16 p v).advance n = { s.setR16 p v with pc := s.pc + n } :=
  advance_of_pc_eq (setR16_pc s p v) n

theorem writeWord_advance (s : State) (a v n : Word) :
    (s.writeWord a v).advance n = { s.writeWord a v with pc := s.pc + n } :=
  advance_of_pc_eq (writeWord_pc s a v) n

/-! ### A pair of the stack by its halves (R110) -/

theorem hiByte_stk (s : State) (q : RegStk) : hiByte (s.stk q) = Claims.highHalf s q := by
  cases q <;> exact hiByte_joinBytes _ _

theorem loByte_stk (s : State) (q : RegStk) : loByte (s.stk q) = Claims.lowHalf s q := by
  cases q <;> exact loByte_joinBytes _ _

theorem setBc_joinBytes (s : State) (hi lo : Byte) :
    s.setBc (joinBytes hi lo) = { s with b := hi, c := lo } := by
  rw [State.setBc, hiByte_joinBytes, loByte_joinBytes]

theorem setDe_joinBytes (s : State) (hi lo : Byte) :
    s.setDe (joinBytes hi lo) = { s with d := hi, e := lo } := by
  rw [State.setDe, hiByte_joinBytes, loByte_joinBytes]

theorem setHl_joinBytes (s : State) (hi lo : Byte) :
    s.setHl (joinBytes hi lo) = { s with h := hi, l := lo } := by
  rw [State.setHl, hiByte_joinBytes, loByte_joinBytes]

/-- The low half of AF is written through F: bits 7 to 4 alone are kept (R22, R23). -/
theorem setAf_joinBytes (s : State) (hi lo : Byte) :
    s.setAf (joinBytes hi lo) =
      { s with
        a := hi, zf := lo.toNat.testBit 7, nf := lo.toNat.testBit 6,
        hf := lo.toNat.testBit 5, cf := lo.toNat.testBit 4 } := by
  rw [State.setAf, hiByte_joinBytes, loByte_joinBytes]
  rfl

/-! ### Push and pop as one next state -/

theorem runPush_eq (q : RegStk) (s : State) :
    runPush q s =
      { (s.write (s.sp - 1) (Claims.highHalf s q)).write (s.sp - 2) (Claims.lowHalf s q) with
        sp := s.sp - 2, pc := s.pc + 1 } := by
  have htwo : s.sp - 1 - 1 = s.sp - 2 := by bv_omega
  rw [runPush, advance_of_pc_eq (push16_pc s _), push16_eq, hiByte_stk, loByte_stk, htwo]

/-- A pop is the write of its pair, with SP moved past the two bytes read (R171, R176). -/
theorem runPop_eq_of_setStk (q : RegStk) (s : State) {t : State}
    (h : State.setStk q (joinBytes (s.read (s.sp + 1)) (s.read s.sp))
      { s with sp := s.sp + 2 } = t) :
    runPop q s = { t with pc := s.pc + 1 } := by
  subst h
  exact advance_of_pc_eq (setStk_pc _ _ _) 1

end Machine

/-- Settles O36: a pair written, SP stored as a word, and SP written with HL. -/
theorem load16 : Obligations.Load16 := by
  refine ⟨fun i p nn s h => ?_, fun nn s => ?_, fun s => ?_⟩
  · exact exec_and_coded_of_form h (setR16_advance s p nn 3)
      (congrArg _ (immBytes_eq_immediate nn)) rfl
  · obtain ⟨-, hstored, -⟩ := wordsAreLittleEndian s nn s.sp
    rw [← hstored]
    exact exec_and_coded_of_form rfl (writeWord_advance s nn s.sp 3)
      (congrArg _ (immBytes_eq_immediate nn)) rfl
  · rw [← hl_eq_pairOf]
    exact exec_and_coded_of_form rfl (setR16_advance s .sp s.hl 1) rfl rfl

/-- Settles O37: the halves of the pair, stored below SP. -/
theorem pushStores : Obligations.PushStores :=
  fun _ q s h => exec_and_coded_of_form h (runPush_eq q s) rfl rfl

/-- Settles O38: each pair written with the word popped, byte by byte. -/
theorem popLoads : Obligations.PopLoads :=
  fun s =>
    ⟨exec_and_coded_of_form rfl (runPop_eq_of_setStk .bc s (setBc_joinBytes _ _ _)) rfl rfl,
      exec_and_coded_of_form rfl (runPop_eq_of_setStk .de s (setDe_joinBytes _ _ _)) rfl rfl,
      exec_and_coded_of_form rfl (runPop_eq_of_setStk .hl s (setHl_joinBytes _ _ _)) rfl rfl,
      exec_and_coded_of_form rfl (runPop_eq_of_setStk .af s (setAf_joinBytes _ _ _)) rfl rfl⟩

end Sys2Proof
end

section
/-! SUPPORT. 8-bit arithmetic and logic (43_alu8.md): the flag functions of R190 in unsigned arithmetic, an ALU operation on A as one next state, and the three operand forms of an operation settled together. -/

namespace Sys2Proof

open Machine

namespace Machine

/-! ### Bytes in arithmetic -/

theorem and_0x0F_toNat (v : Byte) : (v &&& 0x0F).toNat = v.toNat % 16 :=
  Nat.and_two_pow_sub_one_eq_mod v.toNat 4

theorem and_0x0F_beq (v d : Byte) : (v &&& 0x0F == d) = decide (v.toNat % 16 = d.toNat) := by
  rw [beq_eq_decide, decide_eq_decide, ← BitVec.toNat_inj, and_0x0F_toNat]

theorem beq_zero_eq_decide_toNat (v : Byte) : (v == 0) = decide (v.toNat = 0) := by
  rw [beq_eq_decide, decide_eq_decide, ← BitVec.toNat_inj]
  rfl

theorem ofNat_eq_ofNat_mod (n : Nat) : BitVec.ofNat 8 n = BitVec.ofNat 8 (n % 256) := by
  apply BitVec.eq_of_toNat_eq
  simp

theorem ofNat_beq_zero (n : Nat) : (BitVec.ofNat 8 n == 0) = decide (n % 256 = 0) := by
  rw [beq_zero_eq_decide_toNat, BitVec.toNat_ofNat]

/-- u8 of an integer is u8 of any natural number congruent to it (R7). -/
theorem ofInt_eq_ofNat_of_emod_eq {z : Int} {n : Nat} (h : z % 256 = n % 256) :
    BitVec.ofInt 8 z = BitVec.ofNat 8 (n % 256) := by
  apply BitVec.eq_of_toNat_eq
  rw [BitVec.toNat_ofInt, BitVec.toNat_ofNat]
  omega

theorem xor_0xFF_eq_ofNat (v : Byte) : v ^^^ 0xFF = BitVec.ofNat 8 (255 - v.toNat) := by
  have hnot : v ^^^ 0xFF = ~~~v := BitVec.xor_allOnes
  apply BitVec.eq_of_toNat_eq
  rw [hnot, BitVec.toNat_not, BitVec.toNat_ofNat]
  omega

/-! ### The flag functions (R190) -/

theorem add8_eq (a v : Byte) (cin : Bool) :
    add8 a v cin =
      { res := BitVec.ofNat 8 ((a.toNat + v.toNat + cin.toNat) % 256)
        z := decide ((a.toNat + v.toNat + cin.toNat) % 256 = 0)
        n := false
        h := decide (a.toNat % 16 + v.toNat % 16 + cin.toNat > 15)
        c := decide (a.toNat + v.toNat + cin.toNat > 255) } := by
  rw [add8, ofNat_beq_zero, ofNat_eq_ofNat_mod, and_0x0F_toNat, and_0x0F_toNat]

/-- Two times 256 added makes the difference a natural number and leaves it the same modulo 256. -/
theorem sub8_eq (a v : Byte) (cin : Bool) :
    sub8 a v cin =
      { res := BitVec.ofNat 8 ((a.toNat + 512 - v.toNat - cin.toNat) % 256)
        z := decide ((a.toNat + 512 - v.toNat - cin.toNat) % 256 = 0)
        n := true
        h := decide (a.toNat % 16 < v.toNat % 16 + cin.toNat)
        c := decide (a.toNat < v.toNat + cin.toNat) } := by
  have hres : BitVec.ofInt 8 ((a.toNat : Int) - v.toNat - cin.toNat) =
      BitVec.ofNat 8 ((a.toNat + 512 - v.toNat - cin.toNat) % 256) := by
    have hv : v.toNat < 256 := v.isLt
    have hc : cin.toNat ≤ 1 := cin.toNat_le
    exact ofInt_eq_ofNat_of_emod_eq (by omega)
  rw [sub8, hres, ofNat_beq_zero, Nat.mod_mod, and_0x0F_toNat, and_0x0F_toNat]

theorem inc8_eq (v : Byte) :
    inc8 v = (BitVec.ofNat 8 (v.toNat + 1), decide (v.toNat % 16 = 15)) := by
  have hres : v + 1 = BitVec.ofNat 8 (v.toNat + 1) := by bv_omega
  rw [inc8, hres, and_0x0F_beq]
  rfl

/-- One less, wrapping, is 255 more (R7). -/
theorem dec8_eq (v : Byte) :
    dec8 v = (BitVec.ofNat 8 (v.toNat + 255), decide (v.toNat % 16 = 0)) := by
  have hres : v - 1 = BitVec.ofNat 8 (v.toNat + 255) := by bv_omega
  rw [dec8, hres, and_0x0F_beq]
  rfl

/-! ### An ALU operation on A, and PC moved -/

theorem applyAlu_advance_of_ne_cp {op : AluOp} (hop : op ≠ .cp) (v : Byte) (len : Word)
    (s : State) {x : AluResult} (hx : aluResult op s.a v s.cf = x) :
    (applyAlu op v s).advance len =
      { s with a := x.res, zf := x.z, nf := x.n, hf := x.h, cf := x.c, pc := s.pc + len } := by
  subst hx
  cases op with
  | cp => exact absurd rfl hop
  | _ => rfl

theorem applyAlu_advance_of_add8 (s : State) (op : AluOp) (hop : op ≠ .cp) {cin : Bool}
    (hx : ∀ v, aluResult op s.a v s.cf = add8 s.a v cin) (v : Byte) (len : Word) :
    (applyAlu op v s).advance len = Claims.added v cin.toNat len s :=
  applyAlu_advance_of_ne_cp hop v len s ((hx v).trans (add8_eq s.a v cin))

theorem applyAlu_advance_of_sub8 (s : State) (op : AluOp) (hop : op ≠ .cp) {cin : Bool}
    (hx : ∀ v, aluResult op s.a v s.cf = sub8 s.a v cin) (v : Byte) (len : Word) :
    (applyAlu op v s).advance len = Claims.subtracted v cin.toNat len s :=
  applyAlu_advance_of_ne_cp hop v len s ((hx v).trans (sub8_eq s.a v cin))

theorem applyAlu_advance_of_logic8 (s : State) (op : AluOp) (hop : op ≠ .cp)
    {res : Byte → Byte} {h : Bool} (hx : ∀ v, aluResult op s.a v s.cf = logic8 (res v) h)
    (v : Byte) (len : Word) :
    (applyAlu op v s).advance len = Claims.logical (res v) h len s := by
  rw [applyAlu_advance_of_ne_cp hop v len s (hx v), logic8, beq_zero_eq_decide_toNat]
  rfl

/-- CP computes as SUB does and writes the flags alone (R212). -/
theorem applyAlu_cp_advance (s : State) (v : Byte) (len : Word) :
    (applyAlu .cp v s).advance len = Claims.compared v 0 len s := by
  rw [applyAlu, aluResult, sub8_eq]
  rfl

/-! ### INC and DEC of a byte, wherever it is put back -/

theorem setFlags_advance_of_keep_cf {s t : State} (hcf : t.cf = s.cf) (hpc : t.pc = s.pc)
    (z n h : Bool) (len : Word) :
    (t.setFlags z n h s.cf).advance len =
      { t with zf := z, nf := n, hf := h, pc := s.pc + len } := by
  rw [← hcf, ← hpc]
  rfl

section keepsCfAndPc

variable {s : State} {put : Byte → State} (hcf : ∀ w, (put w).cf = s.cf)
  (hpc : ∀ w, (put w).pc = s.pc)
include hcf hpc

/-- `put` stores the result, in a register or at HL (R215, R216). -/
theorem put_inc8_advance (v : Byte) :
    ((put (inc8 v).1).setFlags ((inc8 v).1 == 0) false (inc8 v).2 s.cf).advance 1 =
      { put (BitVec.ofNat 8 (v.toNat + 1)) with
        zf := decide (v.toNat = 255), nf := false, hf := decide (v.toNat % 16 = 15),
        pc := s.pc + 1 } := by
  have hzero : (v.toNat + 1) % 256 = 0 ↔ v.toNat = 255 := by
    have hv : v.toNat < 256 := v.isLt
    omega
  rw [setFlags_advance_of_keep_cf (hcf _) (hpc _), inc8_eq, ofNat_beq_zero,
    decide_eq_decide.mpr hzero]

/-- `put` stores the result, in a register or at HL (R217, R218). -/
theorem put_dec8_advance (v : Byte) :
    ((put (dec8 v).1).setFlags ((dec8 v).1 == 0) true (dec8 v).2 s.cf).advance 1 =
      { put (BitVec.ofNat 8 (v.toNat + 255)) with
        zf := decide (v.toNat = 1), nf := true, hf := decide (v.toNat % 16 = 0),
        pc := s.pc + 1 } := by
  have hzero : (v.toNat + 255) % 256 = 0 ↔ v.toNat = 1 := by
    have hv : v.toNat < 256 := v.isLt
    omega
  rw [setFlags_advance_of_keep_cf (hcf _) (hpc _), dec8_eq, ofNat_beq_zero,
    decide_eq_decide.mpr hzero]

end keepsCfAndPc

/-! ### DAA (R219) -/

/-- Whether DAA corrects by 0x60. -/
def daaHigh (a : Byte) (n c : Bool) : Bool := c || (!n && decide (a.toNat > 0x99))

/-- Whether DAA corrects by 0x06. -/
def daaLow (a : Byte) (n h : Bool) : Bool := h || (!n && decide (a.toNat % 16 > 9))

/-- The correction of DAA, both its tests on the A before. -/
def daaCorrection (a : Byte) (n h c : Bool) : Nat :=
  (if daaHigh a n c then 0x60 else 0) + (if daaLow a n h then 0x06 else 0)

theorem daaCorrection_le (a : Byte) (n h c : Bool) : daaCorrection a n h c ≤ 0x66 := by
  unfold daaCorrection
  split <;> split <;> decide

/-- After a subtraction the tests are Cf and Hf alone. -/
theorem daaValue_of_subtract (a : Byte) (h c : Bool) :
    daaValue a true h c = ((a.toNat : Int) - daaCorrection a true h c, daaHigh a true c) := by
  cases c <;> cases h <;> simp [daaValue, daaCorrection, daaHigh, daaLow]
  omega

/-- Adding 0x60 leaves the low digit, so the second test of R219 may look at the A before. -/
theorem daaValue_of_add (a : Byte) (h c : Bool) :
    daaValue a false h c = ((a.toNat : Int) + daaCorrection a false h c, daaHigh a false c) := by
  have hhigh : (c || decide ((a.toNat : Int) > 0x99)) = daaHigh a false c :=
    congrArg (c || ·) (decide_eq_decide.mpr (by omega))
  have hlow : ∀ high : Bool,
      (h || decide ((if high then (a.toNat : Int) + 0x60 else a.toNat) % 16 > 0x09)) =
        daaLow a false h :=
    fun high => congrArg (h || ·) (decide_eq_decide.mpr (by cases high <;> simp <;> omega))
  simp only [daaValue, daaCorrection, hhigh, hlow]
  cases daaHigh a false c <;> cases daaLow a false h <;> simp
  omega

theorem daaValue_snd (a : Byte) (n h c : Bool) : (daaValue a n h c).2 = daaHigh a n c := by
  cases n with
  | false => rw [daaValue_of_add]
  | true => rw [daaValue_of_subtract]

theorem ofInt_daaValue (a : Byte) (n h c : Bool) :
    BitVec.ofInt 8 (daaValue a n h c).1 = BitVec.ofNat 8
      ((if n then a.toNat + 256 - daaCorrection a n h c
        else a.toNat + daaCorrection a n h c) % 256) := by
  have hle := daaCorrection_le a n h c
  cases n with
  | false =>
    rw [daaValue_of_add]
    exact ofInt_eq_ofNat_of_emod_eq (n := a.toNat + daaCorrection a false h c) (by omega)
  | true =>
    rw [daaValue_of_subtract]
    exact ofInt_eq_ofNat_of_emod_eq (n := a.toNat + 256 - daaCorrection a true h c) (by omega)

theorem runDaa_eq (s : State) :
    runDaa s =
      { s with
        a := BitVec.ofInt 8 (daaValue s.a s.nf s.hf s.cf).1
        zf := BitVec.ofInt 8 (daaValue s.a s.nf s.hf s.cf).1 == 0
        hf := false
        cf := (daaValue s.a s.nf s.hf s.cf).2
        pc := s.pc + 1 } := rfl

end Machine

/-- The rows of an ALU operation differ in where the operand comes from: a register, the byte at HL or the instruction stream (R189). -/
theorem aluRows_of_applyAlu {op : AluOp} {s : State} {result : Byte → Word → State}
    (happly : ∀ v len, (applyAlu op v s).advance len = result v len) (i : Instr) :
    (∀ r, i.form = .aluR op r → exec i s = .next (result (s.r8 r) 1) ∧
      Claims.coded i s (encodeForm (.aluR op r)) 4) ∧
    (i.form = .aluAtHl op → exec i s = .next (result (s.read s.hl) 1) ∧
      Claims.coded i s (encodeForm (.aluAtHl op)) 8) ∧
    (∀ n, i.form = .aluN op n → exec i s = .next (result n 2) ∧
      Claims.coded i s (encodeForm (.aluN op n)) 8) :=
  ⟨fun _ h => exec_and_coded_of_form h (happly _ 1) rfl rfl,
    fun h => exec_and_coded_of_form h (happly _ 1) rfl rfl,
    fun _ h => exec_and_coded_of_form h (happly _ 2) rfl rfl⟩

/-- Settles O39: ADD with carry-in 0, ADC with Cf. -/
theorem additions : Obligations.Additions := by
  intro i s
  obtain ⟨haddR, haddAtHl, haddN⟩ :=
    aluRows_of_applyAlu (applyAlu_advance_of_add8 s .add nofun fun _ => rfl) i
  exact ⟨haddR, haddAtHl, haddN,
    aluRows_of_applyAlu (applyAlu_advance_of_add8 s .adc nofun fun _ => rfl) i⟩

/-- Settles O40: SUB with borrow-in 0, SBC with Cf. -/
theorem subtractions : Obligations.Subtractions := by
  intro i s
  obtain ⟨hsubR, hsubAtHl, hsubN⟩ :=
    aluRows_of_applyAlu (applyAlu_advance_of_sub8 s .sub nofun fun _ => rfl) i
  exact ⟨hsubR, hsubAtHl, hsubN,
    aluRows_of_applyAlu (applyAlu_advance_of_sub8 s .sbc nofun fun _ => rfl) i⟩

/-- Settles O41: the rows of CP; the difference of two bytes is 0 modulo 256 for equal bytes only. -/
theorem comparisons : Obligations.Comparisons := by
  refine ⟨fun i s => aluRows_of_applyAlu (applyAlu_cp_advance s) i, fun v len s => ⟨?_, ?_⟩⟩
  · rw [Claims.compared, decide_eq_true_iff, ← BitVec.toNat_inj]
    have ha : s.a.toNat < 256 := s.a.isLt
    have hv : v.toNat < 256 := v.isLt
    omega
  · exact decide_eq_true_iff

/-- Settles O43: the byte is put back in its register or at HL, and neither write touches Cf or PC. -/
theorem incrementsAndDecrements : Obligations.IncrementsAndDecrements :=
  fun _ s =>
    ⟨fun r h => exec_and_coded_of_form h (put_inc8_advance (setR8_cf s r) (setR8_pc s r) _) rfl rfl,
      fun h => exec_and_coded_of_form h (put_inc8_advance (write_cf s _) (write_pc s _) _) rfl rfl,
      fun r h => exec_and_coded_of_form h (put_dec8_advance (setR8_cf s r) (setR8_pc s r) _) rfl rfl,
      fun h => exec_and_coded_of_form h (put_dec8_advance (write_cf s _) (write_pc s _) _) rfl rfl⟩

/-- Settles O44: DAA through the integer it narrows and the carry, CPL as 255 less A; SCF and CCF write flags and PC only, so their next states agree by computation. -/
theorem accumulatorAndFlagOps : Obligations.AccumulatorAndFlagOps := by
  intro s
  refine ⟨exec_and_coded_of_form rfl ((runDaa_eq s).trans ?_) rfl rfl,
    exec_and_coded_of_form rfl ?_ rfl rfl,
    exec_and_coded_of_form rfl rfl rfl rfl, exec_and_coded_of_form rfl rfl rfl rfl⟩
  · rw [ofInt_daaValue, ofNat_beq_zero, daaValue_snd, Nat.mod_mod]
    rfl
  · rw [← xor_0xFF_eq_ofNat]
    rfl

/-- Settles O42: AND, XOR and OR, each in its three operand forms. -/
theorem logic : Obligations.Logic := by
  intro i s
  obtain ⟨handR, handAtHl, handN⟩ :=
    aluRows_of_applyAlu (applyAlu_advance_of_logic8 s .and nofun fun _ => rfl) i
  obtain ⟨hxorR, hxorAtHl, hxorN⟩ :=
    aluRows_of_applyAlu (applyAlu_advance_of_logic8 s .xor nofun fun _ => rfl) i
  exact ⟨handR, handAtHl, handN, hxorR, hxorAtHl, hxorN,
    aluRows_of_applyAlu (applyAlu_advance_of_logic8 s .or nofun fun _ => rfl) i⟩

end Sys2Proof
end

section
/-! SUPPORT. 16-bit arithmetic (44_alu16.md): the two flag functions of R230 and R234 in unsigned and signed arithmetic, and the rules that use them as one next state. -/

namespace Sys2Proof

open Machine

namespace Machine

/-! ### The low bits of a word -/

theorem and_0x0FFF_toNat (w : Word) : (w &&& 0x0FFF).toNat = w.toNat % 4096 :=
  Nat.and_two_pow_sub_one_eq_mod w.toNat 12

theorem and_0x00FF_toNat (w : Word) : (w &&& 0x00FF).toNat = w.toNat % 256 :=
  Nat.and_two_pow_sub_one_eq_mod w.toNat 8

theorem and_0x000F_toNat (w : Word) : (w &&& 0x000F).toNat = w.toNat % 16 :=
  Nat.and_two_pow_sub_one_eq_mod w.toNat 4

/-! ### The flag functions (R230, R234) -/

theorem add16_eq (h v : Word) :
    add16 h v =
      { res := BitVec.ofNat 16 ((h.toNat + v.toNat) % 65536)
        h := decide (h.toNat % 4096 + v.toNat % 4096 > 4095)
        c := decide (h.toNat + v.toNat > 65535) } := by
  have hres : BitVec.ofNat 16 (h.toNat + v.toNat) =
      BitVec.ofNat 16 ((h.toNat + v.toNat) % 65536) := by
    apply BitVec.eq_of_toNat_eq
    simp
  rw [add16, hres, and_0x0FFF_toNat, and_0x0FFF_toNat]

/-- The sign-extended byte is u16 of the signed displacement (R106). -/
theorem add_sext_eq_ofInt (w : Word) (e : Byte) :
    w + sext e = BitVec.ofInt 16 (w.toNat + e.toInt) := by
  rw [BitVec.ofInt_add, BitVec.ofInt_natCast, BitVec.ofNat_toNat, BitVec.setWidth_eq]
  rfl

/-- The result adds a signed displacement; the flags are of its byte, unsigned. -/
theorem spPlus_eq (sp : Word) (e : Byte) :
    spPlus sp e =
      { res := BitVec.ofInt 16 (sp.toNat + e.toInt)
        h := decide (sp.toNat % 16 + e.toNat % 16 > 15)
        c := decide (sp.toNat % 256 + e.toNat > 255) } := by
  rw [spPlus, add_sext_eq_ofInt, and_0x000F_toNat, and_0x0F_toNat, and_0x00FF_toNat]

/-! ### The rules as one next state -/

/-- HL is written without a flag, so the Zf put back is the one before (R231). -/
theorem runAddHlRr_eq (p : Reg16) (s : State) :
    runAddHlRr p s =
      { s.setHl (BitVec.ofNat 16 ((s.hl.toNat + (s.r16 p).toNat) % 65536)) with
        nf := false
        hf := decide (s.hl.toNat % 4096 + (s.r16 p).toNat % 4096 > 4095)
        cf := decide (s.hl.toNat + (s.r16 p).toNat > 65535)
        pc := s.pc + 1 } := by
  rw [runAddHlRr, add16_eq]
  rfl

theorem runIncRr_eq (p : Reg16) (s : State) :
    runIncRr p s =
      { s.setR16 p (BitVec.ofNat 16 ((s.r16 p).toNat + 1)) with pc := s.pc + 1 } := by
  rw [runIncRr, setR16_advance, add_one_eq_ofNat]

theorem runDecRr_eq (p : Reg16) (s : State) :
    runDecRr p s =
      { s.setR16 p (BitVec.ofNat 16 ((s.r16 p).toNat + 65535)) with pc := s.pc + 1 } := by
  rw [runDecRr, setR16_advance, sub_one_eq_ofNat]

theorem runAddSpE_eq (e : Byte) (s : State) :
    runAddSpE e s =
      { s with
        sp := BitVec.ofInt 16 (s.sp.toNat + e.toInt)
        zf := false
        nf := false
        hf := decide (s.sp.toNat % 16 + e.toNat % 16 > 15)
        cf := decide (s.sp.toNat % 256 + e.toNat > 255)
        pc := s.pc + 2 } := by
  rw [runAddSpE, spPlus_eq]
  rfl

theorem runLdHlSpE_eq (e : Byte) (s : State) :
    runLdHlSpE e s =
      { s.setHl (BitVec.ofInt 16 (s.sp.toNat + e.toInt)) with
        zf := false
        nf := false
        hf := decide (s.sp.toNat % 16 + e.toNat % 16 > 15)
        cf := decide (s.sp.toNat % 256 + e.toNat > 255)
        pc := s.pc + 2 } := by
  rw [runLdHlSpE, spPlus_eq]
  rfl

end Machine

/-- Settles O45: the sum by the flag function of R230, and a pair stepped as a word. -/
theorem arithmetic16 : Obligations.Arithmetic16 :=
  fun _ p s =>
    ⟨fun h => exec_and_coded_of_form h (runAddHlRr_eq p s) rfl rfl,
      fun h => exec_and_coded_of_form h (runIncRr_eq p s) rfl rfl,
      fun h => exec_and_coded_of_form h (runDecRr_eq p s) rfl rfl⟩

/-- Settles O46: both rows by the flag function of R234, put in SP and in HL. -/
theorem spPlusDisplacement : Obligations.SpPlusDisplacement :=
  fun e s =>
    ⟨exec_and_coded_of_form rfl (runAddSpE_eq e s) rfl rfl,
      exec_and_coded_of_form rfl (runLdHlSpE_eq e s) rfl rfl⟩

end Sys2Proof
end

section
/-! SUPPORT. Rotates, shifts and bits (45_rotate_shift_bit.md): what a rotate or shift answers and what a bit operation leaves, in unsigned arithmetic, and the rules that use them as one next state. -/

namespace Sys2Proof

open Machine

/-- The two bytes of an extended row with a bit index in its field y (R113). -/
theorem extBytes_of_bitIndex (x : BitVec 2) (k : Fin 8) (z : BitVec 3) :
    ([0b11001011, opXYZ x (fieldOf k) z] : List Byte) =
      [0b11001011, x ++ BitVec.ofNat 3 k.val ++ z] :=
  congrArg (fun y => [0b11001011, opXYZ x y z]) BitVec.ofFin_eq_ofNat

namespace Machine

/-! ### The bits of a byte in arithmetic -/

theorem eq_ofNat_of_toNat_eq {v : Byte} {n : Nat} (h : v.toNat = n) : v = BitVec.ofNat 8 n := by
  rw [← h, BitVec.ofNat_toNat, BitVec.setWidth_eq]

theorem getLsbD_eq_decide (v : Byte) (k : Nat) :
    v.getLsbD k = decide (v.toNat / 2 ^ k % 2 = 1) :=
  Nat.testBit_eq_decide_div_mod_eq

theorem getLsbD_zero_eq_decide (v : Byte) : v.getLsbD 0 = decide (v.toNat % 2 = 1) := by
  rw [getLsbD_eq_decide, Nat.pow_zero, Nat.div_one]

/-- Bit 7 is all that is left of a byte divided by 128. -/
theorem getLsbD_seven_eq_decide (v : Byte) : v.getLsbD 7 = decide (v.toNat / 128 = 1) := by
  have hv : v.toNat < 256 := v.isLt
  rw [getLsbD_eq_decide, decide_eq_decide]
  omega

theorem toNat_getLsbD (v : Byte) (k : Nat) : (v.getLsbD k).toNat = v.toNat / 2 ^ k % 2 :=
  Nat.toNat_testBit v.toNat k

theorem toNat_getLsbD_zero (v : Byte) : (v.getLsbD 0).toNat = v.toNat % 2 := by
  rw [toNat_getLsbD, Nat.pow_zero, Nat.div_one]

theorem toNat_getLsbD_seven (v : Byte) : (v.getLsbD 7).toNat = v.toNat / 128 := by
  have hv : v.toNat < 256 := v.isLt
  rw [toNat_getLsbD]
  omega

theorem bitByte_toNat (b : Bool) : (bitByte b).toNat = b.toNat := by
  cases b <;> rfl

theorem bitByte_shiftLeft_seven_toNat (b : Bool) : (bitByte b <<< 7).toNat = 128 * b.toNat := by
  cases b <;> rfl

theorem and_0x80_eq_bitByte (v : Byte) : v &&& (0x80 : Byte) = bitByte (v.getLsbD 7) <<< 7 := by
  have hbit : v &&& 0x80 = if v.getLsbD 7 then 0x80 else 0 := BitVec.and_twoPow v 7
  rw [hbit]
  cases v.getLsbD 7 <;> rfl

theorem shiftLeft_toNat (v : Byte) (n : Nat) : (v <<< n).toNat = v.toNat * 2 ^ n % 256 := by
  rw [BitVec.toNat_shiftLeft, Nat.shiftLeft_eq]

theorem ushiftRight_toNat (v : Byte) (n : Nat) : (v >>> n).toNat = v.toNat / 2 ^ n := by
  rw [BitVec.toNat_ushiftRight, Nat.shiftRight_eq_div_pow]

/-- Two bytes joined at bit k, the one a multiple of 2 ^ k and the other below it, are their sum. -/
theorem or_toNat_of_dvd_of_lt {hi lo : Byte} {k : Nat} (hhi : 2 ^ k ∣ hi.toNat)
    (hlo : lo.toNat < 2 ^ k) : (hi ||| lo).toNat = hi.toNat + lo.toNat := by
  obtain ⟨m, hm⟩ := hhi
  rw [BitVec.toNat_or, hm, Nat.two_pow_add_eq_or_of_lt hlo]

/-! ### Rotates and shifts (R250 to R270) -/

/-- Shifted left, with `b` as the new bit 0. -/
theorem shiftLeft_one_or_bitByte_toNat (v : Byte) (b : Bool) :
    ((v <<< 1) ||| bitByte b).toNat = 2 * v.toNat % 256 + b.toNat := by
  have hb : b.toNat ≤ 1 := b.toNat_le
  rw [or_toNat_of_dvd_of_lt (k := 1), shiftLeft_toNat, bitByte_toNat, Nat.pow_one, Nat.mul_comm]
  · rw [shiftLeft_toNat]
    omega
  · rw [bitByte_toNat]
    omega

/-- Shifted right, with `b` as the new bit 7. -/
theorem ushiftRight_one_or_bitByte_toNat (v : Byte) (b : Bool) :
    ((v >>> 1) ||| (bitByte b <<< 7)).toNat = v.toNat / 2 + 128 * b.toNat := by
  have hv : v.toNat < 256 := v.isLt
  rw [BitVec.or_comm, or_toNat_of_dvd_of_lt (k := 7), bitByte_shiftLeft_seven_toNat,
    ushiftRight_toNat, Nat.pow_one, Nat.add_comm]
  · exact bitByte_shiftLeft_seven_toNat b ▸ Nat.dvd_mul_right 128 b.toNat
  · rw [ushiftRight_toNat]
    omega

/-- The two halves of a byte exchanged (R267). -/
theorem swap_toNat (v : Byte) :
    (((v &&& 0x0F) <<< 4) ||| (v >>> 4)).toNat = v.toNat % 16 * 16 + v.toNat / 16 := by
  have hv : v.toNat < 256 := v.isLt
  have hhi : ((v &&& 0x0F) <<< 4).toNat = v.toNat % 16 * 16 := by
    rw [shiftLeft_toNat, and_0x0F_toNat]
    omega
  rw [or_toNat_of_dvd_of_lt (k := 4), hhi, ushiftRight_toNat]
  · rfl
  · exact hhi ▸ Nat.dvd_mul_left 16 (v.toNat % 16)
  · rw [ushiftRight_toNat]
    omega

theorem shiftResult_res_toNat (op : ShiftOp) (v : Byte) (cf : Bool) :
    (shiftResult op v cf).res.toNat = (Claims.shifted op v.toNat cf).1 := by
  cases op with
  | rlc =>
    rw [Claims.shifted, ← toNat_getLsbD_seven]
    exact shiftLeft_one_or_bitByte_toNat v _
  | rrc =>
    rw [Claims.shifted, ← toNat_getLsbD_zero]
    exact ushiftRight_one_or_bitByte_toNat v _
  | rl => exact shiftLeft_one_or_bitByte_toNat v cf
  | rr => exact ushiftRight_one_or_bitByte_toNat v cf
  | sla =>
    rw [Claims.shifted, Nat.mul_comm]
    exact shiftLeft_toNat v 1
  | sra =>
    rw [Claims.shifted, ← toNat_getLsbD_seven, shiftResult, and_0x80_eq_bitByte]
    exact ushiftRight_one_or_bitByte_toNat v _
  | swap => exact swap_toNat v
  | srl => exact ushiftRight_toNat v 1

/-- The carry is the bit shifted out; SWAP shifts none out. -/
theorem shiftResult_c (op : ShiftOp) (v : Byte) (cf : Bool) :
    (shiftResult op v cf).c = (Claims.shifted op v.toNat cf).2 := by
  cases op with
  | rlc | rl | sla => exact getLsbD_seven_eq_decide v
  | rrc | rr | sra | srl => exact getLsbD_zero_eq_decide v
  | swap => rfl

theorem shiftResult_res (op : ShiftOp) (v : Byte) (cf : Bool) :
    (shiftResult op v cf).res = BitVec.ofNat 8 (Claims.shifted op v.toNat cf).1 :=
  eq_ofNat_of_toNat_eq (shiftResult_res_toNat op v cf)

/-- A rotate of A clears Zf, whatever its result (R250 to R253). -/
theorem rotateA_eq (op : ShiftOp) (s : State) :
    rotateA op s =
      { s with
        a := BitVec.ofNat 8 (Claims.shifted op s.a.toNat s.cf).1, zf := false, nf := false,
        hf := false, cf := (Claims.shifted op s.a.toNat s.cf).2, pc := s.pc + 1 } := by
  rw [← shiftResult_res, ← shiftResult_c]
  rfl

/-- `put` stores the result, in a register or at HL (R255, R256). -/
theorem put_shiftResult_advance {s : State} {put : Byte → State}
    (hpc : ∀ w, (put w).pc = s.pc) (op : ShiftOp) (v : Byte) :
    ((put (shiftResult op v s.cf).res).setFlags ((shiftResult op v s.cf).res == 0) false false
        (shiftResult op v s.cf).c).advance 2 =
      { put (BitVec.ofNat 8 (Claims.shifted op v.toNat s.cf).1) with
        zf := decide ((Claims.shifted op v.toNat s.cf).1 = 0), nf := false, hf := false,
        cf := (Claims.shifted op v.toNat s.cf).2, pc := s.pc + 2 } := by
  rw [← shiftResult_res, ← shiftResult_res_toNat, ← beq_zero_eq_decide_toNat, ← shiftResult_c,
    ← hpc]
  rfl

/-! ### A bit tested, cleared and set (R271 to R276) -/

theorem testBit_eq (v : Byte) (k : Fin 8) (s : State) :
    testBit v k s =
      { s with
        zf := decide (v.toNat / 2 ^ k.val % 2 = 0), nf := false, hf := true, pc := s.pc + 2 } := by
  have hz : (!v.getLsbD k) = decide (v.toNat / 2 ^ k.val % 2 = 0) := by
    rw [getLsbD_eq_decide, ← decide_not, decide_eq_decide, Nat.mod_two_not_eq_one]
  rw [testBit, hz]
  rfl

theorem one_shiftLeft_toNat (k : Fin 8) : ((1 : Byte) <<< k.val).toNat = 2 ^ k.val :=
  (congrArg BitVec.toNat (BitVec.twoPow_eq 8 k.val).symm).trans (BitVec.toNat_twoPow_of_lt k.isLt)

/-- Bit k in its place. -/
theorem and_one_shiftLeft_toNat (v : Byte) (k : Fin 8) :
    (v &&& (1 : Byte) <<< k.val).toNat = v.toNat / 2 ^ k.val % 2 * 2 ^ k.val := by
  rw [BitVec.toNat_and, one_shiftLeft_toNat, Nat.and_two_pow, Nat.toNat_testBit]

theorem or_toNat_of_and_eq_zero {x y : Byte} (h : x &&& y = 0#8) :
    (x ||| y).toNat = x.toNat + y.toNat := by
  rw [← BitVec.add_eq_or_of_and_eq_zero x y h, BitVec.toNat_add_of_and_eq_zero h]

/-- A byte is the bits outside a mask and those inside it. -/
theorem and_not_toNat_add_and_toNat (v m : Byte) :
    (v &&& ~~~m).toNat + (v &&& m).toNat = v.toNat := by
  rw [← or_toNat_of_and_eq_zero, ← BitVec.and_or_distrib_left, BitVec.or_comm, BitVec.or_not_self,
    BitVec.and_allOnes]
  ext i
  cases h : m[i] <;> simp [h]

theorem or_toNat_eq_and_not_toNat_add (v m : Byte) :
    (v ||| m).toNat = (v &&& ~~~m).toNat + m.toNat := by
  rw [← or_toNat_of_and_eq_zero]
  · congr 1
    ext i
    cases h : m[i] <;> simp [h]
  · rw [BitVec.and_assoc, BitVec.not_and_self]
    exact BitVec.and_zero

theorem clearBit_toNat_add (v : Byte) (k : Fin 8) :
    (clearBit v k).toNat + v.toNat / 2 ^ k.val % 2 * 2 ^ k.val = v.toNat := by
  rw [← and_one_shiftLeft_toNat]
  exact and_not_toNat_add_and_toNat v _

theorem setBit_toNat (v : Byte) (k : Fin 8) :
    (setBit v k).toNat = (clearBit v k).toNat + 2 ^ k.val := by
  rw [← one_shiftLeft_toNat]
  exact or_toNat_eq_and_not_toNat_add v _

theorem clearBit_eq_bitCleared (v : Byte) (k : Fin 8) : clearBit v k = Claims.bitCleared v k :=
  eq_ofNat_of_toNat_eq (Nat.eq_sub_of_add_eq (clearBit_toNat_add v k))

/-- The bit of `v` is 0 or 1; where it is 1, clearing it and setting it give `v` again. -/
theorem setBit_eq_bitRaised (v : Byte) (k : Fin 8) : setBit v k = Claims.bitRaised v k := by
  apply eq_ofNat_of_toNat_eq
  have hclear := clearBit_toNat_add v k
  rw [setBit_toNat]
  obtain hbit | hbit := Nat.mod_two_eq_zero_or_one (v.toNat / 2 ^ k.val)
  all_goals
    rw [hbit] at hclear ⊢
    omega

end Machine

/-- Settles O47: the four rotates of A by the one rule that clears Zf. -/
theorem accumulatorRotates : Obligations.AccumulatorRotates :=
  fun s =>
    ⟨exec_and_coded_of_form rfl (rotateA_eq .rlc s) rfl rfl,
      exec_and_coded_of_form rfl (rotateA_eq .rrc s) rfl rfl,
      exec_and_coded_of_form rfl (rotateA_eq .rl s) rfl rfl,
      exec_and_coded_of_form rfl (rotateA_eq .rr s) rfl rfl⟩

/-- Settles O48: the result is put back in its register, which leaves PC as it was. -/
theorem shiftRegister : Obligations.ShiftRegister :=
  fun _ op r s h =>
    exec_and_coded_of_form h (put_shiftResult_advance (setR8_pc s r) op (s.r8 r)) rfl rfl

/-- Settles O49: the result is put back at HL, which leaves PC as it was. -/
theorem shiftAtHl : Obligations.ShiftAtHl :=
  fun _ op s h =>
    exec_and_coded_of_form h (put_shiftResult_advance (write_pc s s.hl) op (s.read s.hl)) rfl rfl

/-- Settles O50: a register and the byte at HL are tested by one rule. -/
theorem bitTest : Obligations.BitTest :=
  ⟨fun _ k r s h =>
      exec_and_coded_of_form h (testBit_eq (s.r8 r) k s) (extBytes_of_bitIndex _ k _) rfl,
    fun _ k s h =>
      exec_and_coded_of_form h (testBit_eq (s.read s.hl) k s) (extBytes_of_bitIndex _ k _) rfl⟩

/-- Settles O51: the two bit operations in arithmetic, each put back in a register and at HL. -/
theorem bitResetAndSet : Obligations.BitResetAndSet := by
  intro i k s
  simp only [← clearBit_eq_bitCleared, ← setBit_eq_bitRaised]
  exact ⟨fun r h =>
      exec_and_coded_of_form h (setR8_advance s r _ 2) (extBytes_of_bitIndex _ k _) rfl,
    fun h => exec_and_coded_of_form h (write_advance s s.hl _ 2) (extBytes_of_bitIndex _ k _) rfl,
    fun r h =>
      exec_and_coded_of_form h (setR8_advance s r _ 2) (extBytes_of_bitIndex _ k _) rfl,
    fun h => exec_and_coded_of_form h (write_advance s s.hl _ 2) (extBytes_of_bitIndex _ k _) rfl⟩

end Sys2Proof
end

section
/-! SUPPORT. Control transfer (46_control.md): the two ways of a conditional row settled together, and the jumps, calls and returns as one next state. -/

namespace Sys2Proof

open Machine

/-- A conditional row is settled through its form: what it does when its condition holds, what it does when not, its bytes and its count (R29). -/
theorem exec_and_coded_of_conditional_form {i : Instr} {f : Form} {cc : Cond}
    {s taken passed : State} {bytes : List Byte} {cycles : Nat} (h : i.form = f)
    (hrun : runForm f s = if s.cond cc then taken else passed) (hbytes : encodeForm f = bytes)
    (hcycles : f.cycles s = cycles) :
    (s.cond cc = true → exec i s = .next taken) ∧
    (s.cond cc = false → exec i s = .next passed) ∧
    Claims.coded i s bytes cycles := by
  obtain ⟨hexec, hcoded⟩ := exec_and_coded_of_form h hrun hbytes hcycles
  refine ⟨fun hcc => ?_, fun hcc => ?_, hcoded⟩
  all_goals simp [hexec, hcc]

/-- The byte of RST: its field y is the index of the vector (R113, R114). -/
theorem rstBytes_of_index (t : Fin 8) :
    ([opXYZ 0b11 (fieldOf t) 0b111] : List Byte) = [0b11#2 ++ BitVec.ofNat 3 t.val ++ 0b111#3] :=
  congrArg (fun y => [opXYZ 0b11 y 0b111]) BitVec.ofFin_eq_ofNat

namespace Machine

/-! ### Jumps (R290 to R294) -/

/-- A conditional jump writes PC alone: the target, or the address after the row's bytes. -/
theorem ite_jump_advance (taken : Bool) (target len : Word) (s : State) :
    (if taken then s.jump target else s.advance len) =
      { s with pc := if taken then target else s.pc + len } := by
  cases taken <;> rfl

theorem runJpHl_eq (s : State) : runJpHl s = { s with pc := Claims.pairOf s.h s.l } := by
  rw [runJpHl, State.jump, hl_eq_pairOf]

theorem runJrE_eq (e : Byte) (s : State) : runJrE e s = s.jump (Claims.relative s e) := by
  rw [runJrE, relative_eq]

theorem runJrCcE_eq (cc : Cond) (e : Byte) (s : State) :
    runJrCcE cc e s =
      { s with pc := if s.cond cc then Claims.relative s e else s.pc + 2 } := by
  rw [runJrCcE, runJrE_eq, ite_jump_advance]

/-! ### Calls (R295, R296, R300) -/

theorem push16_eq_pushed (s : State) (v : Word) : s.push16 v = Claims.pushed v s := by
  have htwo : s.sp - 1 - 1 = s.sp - 2 := by bv_omega
  rw [push16_eq, hiByte_eq_ofNat, loByte_eq_ofNat, htwo, Claims.pushed]

theorem push16_jump (s : State) (v target : Word) :
    (s.push16 v).jump target = { Claims.pushed v s with pc := target } :=
  congrArg (State.jump target) (push16_eq_pushed s v)

theorem runCallCcNn_eq (cc : Cond) (nn : Word) (s : State) :
    runCallCcNn cc nn s =
      if s.cond cc then { Claims.pushed (s.pc + 3) s with pc := nn }
      else { s with pc := s.pc + 3 } := by
  rw [runCallCcNn, runCallNn, push16_jump, State.advance]

/-! ### Returns (R297 to R299) -/

theorem returnFromCall_eq_returned (s : State) : s.returnFromCall = Claims.returned s := by
  rw [returnFromCall_eq, joinBytes_eq_pairOf, Claims.returned]

theorem runRetCc_eq (cc : Cond) (s : State) :
    runRetCc cc s = if s.cond cc then Claims.returned s else { s with pc := s.pc + 1 } := by
  rw [runRetCc, returnFromCall_eq_returned, State.advance]

theorem runReti_eq (s : State) : runReti s = { Claims.returned s with ime := true } := by
  rw [runReti, State.returnFromInterrupt, returnFromCall_eq_returned]

end Machine

/-- Settles O52: the four conditions by name, and each jump as a write of PC alone. -/
theorem jumps : Obligations.Jumps :=
  ⟨fun _ => ⟨rfl, rfl, rfl, rfl⟩,
    fun nn _ => exec_and_coded_of_form rfl rfl (congrArg _ (immBytes_eq_immediate nn)) rfl,
    fun _ _ nn s h => exec_and_coded_of_form h (ite_jump_advance _ nn 3 s)
      (congrArg _ (immBytes_eq_immediate nn)) rfl,
    fun s => exec_and_coded_of_form rfl (runJpHl_eq s) rfl rfl,
    fun e s => exec_and_coded_of_form rfl (runJrE_eq e s) rfl rfl,
    fun _ cc e s h => exec_and_coded_of_form h (runJrCcE_eq cc e s) rfl rfl⟩

/-- Settles O53: the return address pushed and PC set, with and without a condition and to a fixed vector. -/
theorem calls : Obligations.Calls :=
  ⟨fun nn s => exec_and_coded_of_form rfl (push16_jump s (s.pc + 3) nn)
      (congrArg _ (immBytes_eq_immediate nn)) rfl,
    fun _ cc nn s h => exec_and_coded_of_conditional_form h (runCallCcNn_eq cc nn s)
      (congrArg _ (immBytes_eq_immediate nn)) rfl,
    fun _ t s h => exec_and_coded_of_form h (push16_jump s (s.pc + 1) (rstTarget t))
      (rstBytes_of_index t) rfl⟩

/-- Settles O54: PC and SP from the stack, with and without a condition; RETI writes IME too. -/
theorem returns : Obligations.Returns :=
  ⟨fun s => exec_and_coded_of_form rfl (returnFromCall_eq_returned s) rfl rfl,
    fun _ cc s h => exec_and_coded_of_conditional_form h (runRetCc_eq cc s) rfl rfl,
    fun s => exec_and_coded_of_form rfl (runReti_eq s) rfl rfl⟩

end Sys2Proof
end

section
/-! SUPPORT. System instructions (47_system.md): the five rows through their forms, and the step of a stopped engine, which changes nothing. -/

namespace Sys2Proof

open Machine

namespace Machine

/-! ### The stopped engine (R324) -/

theorem stepWith_of_stopped {s : State} (h : s.stopped = true) (cfg : Config) :
    stepWith cfg s = .next s :=
  if_pos h

theorem stepCycles_of_stopped {s : State} (h : s.stopped = true) (cfg : Config) :
    stepCycles cfg s = 4 :=
  if_pos h

/-- A state that its own step answers is what every number of steps answers. -/
theorem run_of_step_eq_self {M : Host.Core} {s : M.State} (h : M.step s = .next s) (n : Nat) :
    M.run n s = .next s := by
  induction n with
  | zero => rfl
  | succ n ih => simpa only [Host.Core.run, h] using ih

/-- Of the host's operations the write of the latches alone writes STOPPED (R324, D44). -/
theorem HostOp.stopped_apply {op : HostOp} (hop : ∀ ime p h v, op ≠ .setLatches ime p h v)
    (s : State) : (op.apply s).stopped = s.stopped := by
  cases op with
  | write | writeWord | setR8 | setFlags => simp [HostOp.apply]
  | setLatches ime p h v => exact absurd rfl (hop ime p h v)
  | loadBootImage | loadCartridgeImage | setBootOverlay | setPc | setSp => rfl

/-- A host operation that clears STOPPED is the write of the latches that says so. -/
theorem HostOp.eq_setLatches_of_clears_stopped {op : HostOp} {s : State} (hs : s.stopped = true)
    (hop : (op.apply s).stopped = false) : ∃ ime p h, op = .setLatches ime p h false := by
  by_cases hlatch : ∃ ime p h v, op = .setLatches ime p h v
  · obtain ⟨ime, p, h, v, rfl⟩ := hlatch
    have hv : v = false := hop
    exact ⟨ime, p, h, by rw [hv]⟩
  · have hkeep := HostOp.stopped_apply (fun ime p h v e => hlatch ⟨ime, p, h, v, e⟩) s
    rw [hkeep, hs] at hop
    cases hop

/-! ### HALT (R321) -/

/-- HALT moves PC, and sets HALTED if no request is pending. -/
theorem runHalt_eq (s : State) :
    runHalt s = { s with pc := s.pc + 1, halted := s.halted || decide (s.pending = 0) } := by
  unfold runHalt
  split
  case isTrue h => rw [decide_eq_true h, Bool.or_true]; rfl
  case isFalse h => rw [decide_eq_false h, Bool.or_false]; rfl

end Machine

/-- Settles O8: the stopped case comes first in a step and answers the same state; the induction is on the number of steps. -/
theorem stoppedStep : Obligations.StoppedStep :=
  fun _ hs =>
    ⟨fun cfg => ⟨stepWith_of_stopped hs cfg, stepCycles_of_stopped hs cfg⟩,
      run_of_step_eq_self (M := core) (stepWith_of_stopped hs standardConfig),
      fun _ => HostOp.eq_setLatches_of_clears_stopped hs⟩

/-- Settles O55: each row through its form; HALT alone reads the pending requests. -/
theorem systemInstructions : Obligations.SystemInstructions :=
  fun s =>
    ⟨exec_and_coded_of_form rfl rfl rfl rfl,
      exec_and_coded_of_form rfl (runHalt_eq s) rfl rfl,
      fun _ => exec_and_coded_of_form rfl rfl rfl rfl,
      exec_and_coded_of_form rfl rfl rfl rfl,
      exec_and_coded_of_form rfl rfl rfl rfl⟩

end Sys2Proof
end

section
/-! SUPPORT. Interrupt entry (60_exceptions.md): which request is the lowest, the entry as one next state in the terms of the claims, and the step that takes it. -/

namespace Sys2Proof

open Machine

namespace Machine

/-! ### The lowest request (R348) -/

/-- `lowestRequest` tests the bits from 0 up, so it stops at the first one that is set. -/
theorem lowestRequest_eq {p : Byte} {k : Fin 5} (hk : p.getLsbD k = true)
    (hlow : ∀ j < k.val, p.getLsbD j = false) : lowestRequest p = k := by
  have hclear : ∀ j < k.val, ¬p.getLsbD j = true := fun j hj => Bool.eq_false_iff.mp (hlow j hj)
  unfold lowestRequest
  match k with
  | 0 => exact if_pos hk
  | 1 => rw [if_neg (hclear 0 (by decide))]; exact if_pos hk
  | 2 => rw [if_neg (hclear 0 (by decide)), if_neg (hclear 1 (by decide))]; exact if_pos hk
  | 3 =>
    rw [if_neg (hclear 0 (by decide)), if_neg (hclear 1 (by decide)),
      if_neg (hclear 2 (by decide))]
    exact if_pos hk
  | 4 =>
    rw [if_neg (hclear 0 (by decide)), if_neg (hclear 1 (by decide)),
      if_neg (hclear 2 (by decide)), if_neg (hclear 3 (by decide))]

theorem ne_zero_of_getLsbD {v : Byte} {k : Nat} (h : v.getLsbD k = true) : v ≠ 0 := by
  rintro rfl
  simp at h

/-! ### The entry (R349) -/

/-- The bit of IF is cleared in the state PC is pushed from, so a push that reaches IF comes after. -/
theorem interruptEntry_eq_pushed (s : State) :
    s.interruptEntry =
      { Claims.pushed s.pc
          (s.setIf (Claims.bitCleared s.ifByte (lowestRequest s.pending))) with
        ime := false, imePending := false, halted := false,
        pc := vector (lowestRequest s.pending) } := by
  have hclear : clearBit s.ifByte (lowestRequest s.pending) =
      Claims.bitCleared s.ifByte (lowestRequest s.pending) :=
    clearBit_eq_bitCleared s.ifByte ((lowestRequest s.pending).castLE (by decide))
  rw [← hclear, ← push16_eq_pushed, push16_eq, interruptEntry_eq]
  rfl

/-! ### The step that takes it (R100, R357) -/

theorem takesInterrupt_of_pending {cfg : Config} {s : State} (hcfg : cfg.interruptDispatch = .dmg)
    (hime : s.ime = true) (hp : s.pending ≠ 0) : s.takesInterrupt cfg = true := by
  rw [State.takesInterrupt, hcfg, hime, bne_iff_ne.mpr hp]
  rfl

theorem stepWith_of_takesInterrupt {cfg : Config} {s : State} (hs : s.stopped = false)
    (ht : s.takesInterrupt cfg = true) : stepWith cfg s = .next s.interruptEntry := by
  simp [stepWith, hs, ht]

theorem stepCycles_of_takesInterrupt {cfg : Config} {s : State} (hs : s.stopped = false)
    (ht : s.takesInterrupt cfg = true) : stepCycles cfg s = 20 := by
  simp [stepCycles, hs, ht]

end Machine

/-- Settles O10: a set request bit makes the step the interrupt entry, and the lowest such bit is the request it takes. -/
theorem interruptEntry : Obligations.InterruptEntry := by
  intro cfg s k hcfg hs hime hk hlow
  have ht := takesInterrupt_of_pending hcfg hime (ne_zero_of_getLsbD hk)
  refine ⟨?_, stepCycles_of_takesInterrupt hs ht⟩
  rw [stepWith_of_takesInterrupt hs ht, interruptEntry_eq_pushed, lowestRequest_eq hk hlow, vector]

end Sys2Proof
end

section
/-! SUPPORT. Encoding (30_encoding.md): the opcode maps as one function of the three bytes at PC, and the encoder as its inverse; a build that lacks descriptors answers for fewer bytes and no byte differently. -/

namespace Sys2Proof

/-! ### The two maps as one function of the bytes -/

/-- The row of a cell, with the immediate it takes from the two bytes after the opcode (R106, R107). -/
def Entry.row (b1 b2 : Byte) : Entry → Option Instr
  | .absent => none
  | .op i => some i
  | .imm8 mk => some (mk b1)
  | .imm16 mk => some (mk (joinBytes b2 b1))

/-- The row that begins with three bytes, in a build that has every descriptor (R101, R116 to R118). -/
def rowAt (b0 b1 b2 : Byte) : Option Instr :=
  if b0 = prefixByte then cellAt extMap b1 else (cellAt primaryMap b0).bind (·.row b1 b2)

theorem decodeExt_eq_instr_iff {cfg : Config} {b1 : Byte} {i : Instr} :
    decodeExt cfg b1 = .instr i ↔ cellAt extMap b1 = some i ∧ cfg.presentExt b1 = true := by
  unfold decodeExt
  cases cfg.presentExt b1 <;> cases cellAt extMap b1 <;> simp

theorem decodePrimary_eq_instr_iff {cfg : Config} {b0 b1 b2 : Byte} {i : Instr} :
    decodePrimary cfg b0 b1 b2 = .instr i ↔
      (cellAt primaryMap b0).bind (·.row b1 b2) = some i ∧ cfg.presentPrimary b0 = true := by
  unfold decodePrimary
  cases cfg.presentPrimary b0 with
  | false => simp
  | true =>
    rcases cellAt primaryMap b0 with _ | (_ | _ | _ | _) <;> simp [Entry.row]

/-- The decoder answers the row of the maps, if the build has its descriptor. -/
theorem decode_eq_instr_iff {cfg : Config} {b0 b1 b2 : Byte} {i : Instr} :
    decode cfg b0 b1 b2 = .instr i ↔
      rowAt b0 b1 b2 = some i ∧ cfg.present [b0, b1] = true := by
  simp only [decode, rowAt, Config.present]
  split
  · exact decodeExt_eq_instr_iff
  · exact decodePrimary_eq_instr_iff

/-! ### The encoder and the maps -/

/-- The row that begins a list of at least three bytes. -/
def rowOf : List Byte → Option Instr
  | b0 :: b1 :: b2 :: _ => rowAt b0 b1 b2
  | _ => none

/-- The two bytes that the encoder makes of a 16-bit immediate are the word again (R106). -/
theorem rowOf_imm16 {b0 : Byte} {mk : Word → Instr} (hne : b0 ≠ prefixByte)
    (hcell : cellAt primaryMap b0 = some (.imm16 mk)) (nn : Word) (rest : List Byte) :
    rowOf (b0 :: immBytes nn ++ rest) = some (mk nn) := by
  simp [rowOf, immBytes, rowAt, hne, hcell, Entry.row]

/-- One case for each instruction: its bytes lead to its own cell. But for the rows with a 16-bit immediate, the two sides evaluate to one term. -/
theorem rowOf_encode_append (i : Instr) (x y : Byte) (rest : List Byte) :
    rowOf (encode i ++ x :: y :: rest) = some i := by
  cases i with
  | ld_BC_nn nn | ld_DE_nn nn | ld_HL_nn nn | ld_SP_nn nn | ld_atnn_SP nn | ld_atnn_A nn
  | ld_A_atnn nn | jp_nn nn | jp_NZ_nn nn | jp_Z_nn nn | jp_NC_nn nn | jp_C_nn nn | call_nn nn
  | call_NZ_nn nn | call_Z_nn nn | call_NC_nn nn | call_C_nn nn =>
    exact rowOf_imm16 (by decide) rfl nn _
  | _ => rfl

/-- What follows the encoding does not matter: two more bytes make every list long enough. -/
theorem rowAt_of_encode_prefix {i : Instr} {b0 b1 b2 : Byte} (h : encode i <+: [b0, b1, b2]) :
    rowAt b0 b1 b2 = some i := by
  obtain ⟨rest, h⟩ := h
  obtain ⟨x, y, more, hrest⟩ : ∃ x y more, rest ++ [0, 0] = x :: y :: more := by
    match rest with
    | [] => exact ⟨_, _, _, rfl⟩
    | [_] => exact ⟨_, _, _, rfl⟩
    | _ :: _ :: _ => exact ⟨_, _, _, rfl⟩
  have hrow := rowOf_encode_append i x y more
  rwa [← hrest, ← List.append_assoc, h] at hrow

/-- The map's cell at a byte is the instruction that the byte and its immediate encode. -/
theorem encode_prefix_of_rowAt {i : Instr} {b0 b1 b2 : Byte} (h : rowAt b0 b1 b2 = some i) :
    encode i <+: [b0, b1, b2] := by
  unfold rowAt at h
  split at h
  case isTrue hpre =>
    obtain ⟨j, hcell, hj, -⟩ := extMap_encodedAt b1
    cases hcell.symm.trans h
    exact ⟨[b2], by rw [hj, hpre]; rfl⟩
  case isFalse =>
    obtain ⟨e, hcell, he⟩ := primaryMap_encodedAt b0 b1 (joinBytes b2 b1)
    rw [hcell] at h
    cases e with
    | absent => cases h
    | op j => cases h; exact ⟨[b1, b2], congrArg (· ++ _) he⟩
    | imm8 mk => cases h; exact ⟨[b2], congrArg (· ++ _) he⟩
    | imm16 mk =>
      cases h
      exact ⟨[], by simpa [Entry.EncodedAt, immBytes] using he⟩

theorem rowAt_eq_some_iff {i : Instr} {b0 b1 b2 : Byte} :
    rowAt b0 b1 b2 = some i ↔ encode i <+: [b0, b1, b2] :=
  ⟨encode_prefix_of_rowAt, rowAt_of_encode_prefix⟩

/-! ### Descriptors (R102, R103) -/

/-- 0xCB begins an extended row, so it is no row's only byte (R117). -/
theorem encode_ne_prefix (i : Instr) : encode i ≠ [prefixByte] := by
  intro h
  have hrow : rowAt prefixByte 0 0 = some i := rowAt_of_encode_prefix ⟨[0, 0], by rw [h]; rfl⟩
  obtain ⟨j, hcell, hj, -⟩ := extMap_encodedAt 0
  cases hcell.symm.trans hrow
  cases hj.symm.trans h

/-- Which descriptor a row needs is known from the first two bytes. -/
theorem present_encode_of_prefix {i : Instr} {b0 b1 b2 : Byte} (h : encode i <+: [b0, b1, b2])
    (cfg : Config) : cfg.present (encode i) = cfg.present [b0, b1] := by
  obtain ⟨rest, h⟩ := h
  match hi : encode i with
  | [] =>
    obtain ⟨hlen, -⟩ := encodeForm_length i.form
    exact absurd hi (List.ne_nil_of_length_pos hlen)
  | [c0] =>
    have hne : c0 ≠ prefixByte := fun e => encode_ne_prefix i (e ▸ hi)
    rw [hi] at h
    cases h
    exact (if_neg hne).symm
  | c0 :: c1 :: tail =>
    rw [hi] at h
    simp only [List.cons_append, List.cons.injEq] at h
    obtain ⟨rfl, rfl, -⟩ := h
    rfl

/-- The decoder answers exactly the well-formed instructions, each on its own bytes. -/
theorem decode_eq_instr_iff_encode {cfg : Config} {i : Instr} {b0 b1 b2 : Byte} :
    decode cfg b0 b1 b2 = .instr i ↔ encode i <+: [b0, b1, b2] ∧ i.wf cfg = true := by
  rw [decode_eq_instr_iff, rowAt_eq_some_iff]
  exact and_congr_right fun h => by rw [Instr.wf, present_encode_of_prefix h]

/-! ### One row, one encoding -/

theorem encode_injective : Function.Injective encode := fun i j h => by
  have hi := rowOf_encode_append i 0 0 []
  rw [h, rowOf_encode_append] at hi
  exact (Option.some.inj hi).symm

/-- Two rows of one form have the same bytes, so they are one row. -/
theorem form_injective : Function.Injective Instr.form :=
  fun _ _ h => encode_injective (congrArg encodeForm h)

/-- Settles O1: each instruction stands at the cell its bytes lead to. -/
theorem decodeOfEncode : Obligations.DecodeOfEncode :=
  fun _ _ _ _ _ hwf hbytes => decode_eq_instr_iff_encode.mpr ⟨hbytes, hwf⟩

/-- Settles O2: each cell of the maps holds the instruction its byte encodes. -/
theorem encodeOfDecode : Obligations.EncodeOfDecode :=
  fun _ _ _ _ _ => decode_eq_instr_iff_encode.mp

/-- Settles O3: eight closed words, read by evaluation of the decoder. -/
theorem writtenWordsDecode : Obligations.WrittenWordsDecode :=
  ⟨rfl, rfl, rfl, rfl, rfl, rfl, rfl, rfl⟩

end Sys2Proof
end

section
/-! SUPPORT. Accesses (20_memory.md): what a read gives after a write, through the Echo, under the overlay, on the stack and from the two interrupt bytes; the storage kept well-formed by the host and changed by an instruction at its own stores only. -/

namespace Sys2Proof

open Machine

namespace Machine

/-! ### Two addresses of one byte (R87) -/

theorem sameByte_iff {boot : Bool} {a b : Word} :
    Claims.sameByte boot a b ↔ cellOf a boot = cellOf b boot ∧ (cellOf a boot).isSome = true := by
  rw [Option.isSome_iff_exists]
  constructor
  · rintro ⟨k, ha, hb⟩
    exact ⟨ha.trans hb.symm, k, ha⟩
  · rintro ⟨hab, k, ha⟩
    exact ⟨k, ha, hab ▸ ha⟩

theorem not_inGap_iff {a : Word} (boot : Bool) :
    ¬Claims.inGap a ↔ (cellOf a boot).isSome = true := by
  rw [← Option.ne_none_iff_isSome, ne_eq, cellOf_eq_none_iff, Claims.inGap]
  omega

theorem sameByte_self {a : Word} (h : ¬Claims.inGap a) (boot : Bool) :
    Claims.sameByte boot a a :=
  sameByte_iff.mpr ⟨rfl, (not_inGap_iff boot).mp h⟩

/-- Neighbours never share a byte: an Echo pair lies 0x2000 apart. -/
theorem not_sameByte_sub_one (a : Word) (boot : Bool) : ¬Claims.sameByte boot a (a - 1) := by
  intro h
  have hne : a ≠ a - 1 := by bv_omega
  obtain ⟨-, -, he⟩ | ⟨-, -, he⟩ := echo_of_sameByte h hne
  all_goals bv_omega

/-! ### Reading after writing (R73, R74) -/

theorem read_write_of_sameByte {s : State} (hm : s.mem.wf) {a b : Word} (v : Byte)
    (h : Claims.sameByte s.boot b a) : (s.write a v).read b = v := by
  rw [read_write hm, if_pos (sameByte_iff.mp h)]

theorem read_write_of_not_sameByte {s : State} (hm : s.mem.wf) {a b : Word} (v : Byte)
    (h : ¬Claims.sameByte s.boot b a) : (s.write a v).read b = s.read b := by
  rw [read_write hm, if_neg (mt sameByte_iff.mpr h)]

/-- Equal in every cell, two canonical storages are equal. -/
theorem Memory.poke_poke_same {m : Memory} (hm : m.wf) (k : Nat) (v : Byte) :
    (m.poke k v).poke k v = m.poke k v := by
  have hpoke := Memory.poke_wf hm k v
  refine Memory.eq_of_peek_eq (Memory.poke_wf hpoke k v) hpoke fun j => ?_
  rw [Memory.peek_poke hpoke.1]
  split
  case isTrue hj => rw [Memory.peek_poke hm.1, if_pos hj]
  case isFalse => rfl

theorem write_write_same {s : State} (hm : s.mem.wf) (a : Word) (v : Byte) :
    (s.write a v).write a v = s.write a v := by
  cases hcell : cellOf a s.boot with
  | none => simp [State.write, hcell]
  | some k =>
    have hcell' : cellOf a (s.write a v).boot = some k := (write_boot s a v).symm ▸ hcell
    rw [write_of_cellOf hcell', write_of_cellOf hcell, Memory.poke_poke_same hm]

theorem write_mem_wf {s : State} (hm : s.mem.wf) (a : Word) (v : Byte) :
    (s.write a v).mem.wf := by
  rw [write_mem]
  split
  · exact Memory.poke_wf hm _ _
  · exact hm

/-! ### The byte of one cell -/

theorem read_of_cellOf {s : State} {a : Word} {k : Nat} (h : cellOf a s.boot = some k) :
    s.read a = s.mem.peek k := by
  simp [State.read, h]

/-! ### The Echo (R67) -/

theorem sameByte_of_echo {e : Word} (h : 0xE000 ≤ e.toNat ∧ e.toNat ≤ 0xFDFF) (boot : Bool) :
    Claims.sameByte boot e (e - 0x2000) := by
  obtain ⟨hlo, hhi⟩ := h
  obtain ⟨hpairs, -⟩ := onlyEchoPairsShareAByte
  obtain ⟨-, hsame⟩ := hpairs e boot hlo hhi
  exact hsame

theorem read_echo {e : Word} (h : 0xE000 ≤ e.toNat ∧ e.toNat ≤ 0xFDFF) (s : State) :
    s.read e = s.read (e - 0x2000) := by
  rw [State.read, State.read, cellOf, cellOf, resolve_sub_0x2000_of_echo h]

/-- The Echo is 0x1E00 bytes long, so the last 0x200 bytes of Work RAM have no Echo address. -/
theorem not_sameByte_of_no_echo {a e : Word} (ha : 0xDE00 ≤ a.toNat ∧ a.toNat ≤ 0xDFFF)
    (he : 0xE000 ≤ e.toNat ∧ e.toNat ≤ 0xFDFF) (boot : Bool) :
    ¬Claims.sameByte boot a e := by
  intro h
  have hne : a ≠ e := by rintro rfl; omega
  obtain ⟨hlo, -, -⟩ | ⟨hlo, -, hsub⟩ := echo_of_sameByte h hne
  · omega
  · have := toNat_sub_0x2000 hlo
    rw [← hsub] at this
    omega

/-! ### The overlay (R62, R85) -/

theorem cellOf_low {a : Word} (h : a.toNat ≤ 0x3FFF) (boot : Bool) :
    cellOf a boot = some (if boot then 0x10000 + a.toNat else a.toNat) := by
  rw [cellOf_eq, if_pos (by omega)]

theorem read_setBootOverlay {s : State} {boot : Bool} {a : Word} {k : Nat}
    (h : cellOf a boot = some k) : (s.setBootOverlay boot).read a = s.mem.peek k :=
  read_of_cellOf (s := s.setBootOverlay boot) h

theorem setBootOverlay_of_boot_eq {s : State} {boot : Bool} (h : s.boot = boot) :
    s.setBootOverlay boot = s := by
  rw [State.setBootOverlay, ← h]

/-- The two images have no cell in common. -/
theorem cellOf_low_ne_cellOf_not {a b : Word} (ha : a.toNat ≤ 0x3FFF) (hb : b.toNat ≤ 0x3FFF)
    (up : Bool) : cellOf a up ≠ cellOf b (!up) := by
  rw [cellOf_low ha, cellOf_low hb]
  cases up
  all_goals
    simp only [Bool.not_false, Bool.not_true, Bool.false_eq_true, if_true, if_false, ne_eq,
      Option.some.injEq]
    omega

/-! ### The stack (R170, R171, R178) -/

theorem read_push16 (s : State) (v b : Word) :
    (s.push16 v).read b =
      ((s.write (s.sp - 1) (hiByte v)).write (s.sp - 1 - 1) (loByte v)).read b := by
  rw [push16_eq]
  rfl

/-- The low byte is stored last, beside the high one. -/
theorem read_push16_high {s : State} (hm : s.mem.wf) (h : ¬Claims.inGap (s.sp - 1)) (v : Word) :
    (s.push16 v).read (s.sp - 1) = hiByte v := by
  rw [read_push16, read_write_of_not_sameByte (write_mem_wf hm _ _) _ (not_sameByte_sub_one _ _)]
  exact read_write_of_sameByte hm _ (sameByte_self h _)

theorem read_push16_low {s : State} (hm : s.mem.wf) (h : ¬Claims.inGap (s.sp - 1 - 1))
    (v : Word) : (s.push16 v).read (s.sp - 1 - 1) = loByte v := by
  rw [read_push16]
  exact read_write_of_sameByte (write_mem_wf hm _ _) _ (sameByte_self h _)

theorem pop16_push16 (s : State) (v : Word) :
    (s.push16 v).pop16 =
      (joinBytes ((s.push16 v).read (s.sp - 1)) ((s.push16 v).read (s.sp - 1 - 1)),
        { s.push16 v with sp := s.sp }) := by
  have hhigh : s.sp - 1 - 1 + 1 = s.sp - 1 := by bv_omega
  have hsp : s.sp - 1 - 1 + 2 = s.sp := by bv_omega
  rw [pop16_eq, push16_sp, hhigh, hsp]

theorem joinBytes_toNat (hi lo : Byte) : (joinBytes hi lo).toNat = hi.toNat * 256 + lo.toNat := by
  have hhi : hi.toNat < 256 := hi.isLt
  have hlo : lo.toNat < 256 := lo.isLt
  rw [joinBytes_eq_pairOf, Claims.pairOf, BitVec.toNat_ofNat]
  omega

theorem joinBytes_toNat_div (hi lo : Byte) : (joinBytes hi lo).toNat / 256 = hi.toNat := by
  have hlo : lo.toNat < 256 := lo.isLt
  rw [joinBytes_toNat]
  omega

theorem joinBytes_toNat_mod (hi lo : Byte) : (joinBytes hi lo).toNat % 256 = lo.toNat := by
  have hlo : lo.toNat < 256 := lo.isLt
  rw [joinBytes_toNat]
  omega

/-! ### The interrupt bytes (R36, R37, R347) -/

theorem ieByte_eq_read (s : State) : s.ieByte = s.read 0xFFFF := by
  have hcell : cellOf 0xFFFF s.boot = some (Region.ie.cell 0) := by
    rw [cellOf, resolve_ie s.boot (by decide)]; rfl
  exact (read_of_cellOf hcell).symm

theorem ifByte_eq_read (s : State) : s.ifByte = s.read 0xFF0F := by
  have hcell : cellOf 0xFF0F s.boot = some (Region.io.cell 0x0F) := by
    rw [cellOf, resolve_io s.boot (by decide)]; rfl
  exact (read_of_cellOf hcell).symm

/-- The mask of the five requests. -/
theorem getLsbD_0x1F {k : Nat} (hk : k < 8) : (0x1F : Byte).getLsbD k = decide (k < 5) := by
  revert k
  decide

/-! ### What keeps the storage well-formed (R35) -/

/-- Of the host's operations the accesses and the loads change the storage; the others leave it. -/
theorem HostOp.apply_wf {s : State} (hs : s.wf) (op : HostOp) : (op.apply s).wf := by
  cases op with
  | write a v => exact write_wf hs a v
  | writeWord a v => exact writeWord_wf hs a v
  | loadBootImage bytes => exact loadRegion_wf hs .bootimg bytes
  | loadCartridgeImage bytes => exact loadRegion_wf hs .cart bytes
  | setR8 r v => exact wf_of_mem (setR8_mem s r v) hs
  | setBootOverlay | setFlags | setPc | setSp | setLatches => exact hs

/-! ### What an instruction leaves of the storage -/

/-- A cell that is none of those stored to keeps its byte, for each number of stores. -/
theorem StoreCase.peek_eq {s : State} {m : Memory} {l : List Word} (hm : s.mem.wf)
    (hc : StoreCase s m l) {k : Nat} (hk : ∀ w ∈ l, cellOf w s.boot ≠ some k) :
    m.peek k = s.mem.peek k := by
  cases hc with
  | none h => rw [h]
  | one w v h => rw [h, peek_write_other hm (hk w (by simp))]
  | two w w' v v' h =>
    have hk' : cellOf w' (s.write w v).boot ≠ some k := (write_boot s w v).symm ▸ hk w' (by simp)
    rw [h, peek_write_other (write_mem_wf hm _ _) hk', peek_write_other hm (hk w (by simp))]

theorem runForm_peek {s : State} (hm : s.mem.wf) (f : Form) {k : Nat}
    (hk : ∀ w ∈ f.stores s, cellOf w s.boot ≠ some k) :
    (runForm f s).mem.peek k = s.mem.peek k :=
  (runForm_storeCase f s).peek_eq hm hk

/-- In the gap a read is 0xFF before and after; elsewhere it is the byte of one cell. -/
theorem runForm_read {s : State} (hm : s.mem.wf) (f : Form) {a : Word}
    (ha : ∀ w ∈ f.stores s, ¬Claims.sameByte s.boot a w) :
    (runForm f s).read a = s.read a := by
  cases hcell : cellOf a s.boot with
  | none => simp [State.read, hcell]
  | some k =>
    rw [read_of_cellOf hcell, read_of_cellOf ((runForm_boot f s).symm ▸ hcell)]
    exact runForm_peek hm f fun w hw hk => ha w hw ⟨k, hcell, hk⟩

end Machine

/-- Settles O11: each interrupt byte is the byte of its cell, and the mask keeps bits 0 to 4. -/
theorem pendingBits : Obligations.PendingBits := by
  refine fun s => ⟨ieByte_eq_read s, ifByte_eq_read s, fun k hk => ?_⟩
  rw [State.pending, ieByte_eq_read, ifByte_eq_read, BitVec.getLsbD_and, BitVec.getLsbD_and,
    getLsbD_0x1F hk, Bool.and_comm, Bool.and_assoc]

/-- Settles O15: operation by operation. -/
theorem hostOpsKeepStorage : Obligations.HostOpsKeepStorage :=
  fun op _ hs => HostOp.apply_wf hs op

/-- Settles O23: the read at the written byte and elsewhere, the frame, and the write repeated. -/
theorem readAfterWrite : Obligations.ReadAfterWrite :=
  fun s a v hm =>
    ⟨fun _ => read_write_of_sameByte hm v, fun _ => read_write_of_not_sameByte hm v,
      fun _ => peek_write_other hm, by rw [write_eq], write_write_same hm a v⟩

/-- Settles O24: the two addresses of a pair share their byte, and an Echo address shares none above 0xDDFF. -/
theorem echoAliases : Obligations.EchoAliases := by
  intro s e v hm hlo hhi
  have hsame := sameByte_of_echo ⟨hlo, hhi⟩ s.boot
  have hsame' : Claims.sameByte s.boot (e - 0x2000) e :=
    hsame.imp fun _ ⟨he, hw⟩ => ⟨hw, he⟩
  exact ⟨read_write_of_sameByte hm v hsame', read_write_of_sameByte hm v hsame,
    read_echo ⟨hlo, hhi⟩ s, fun a halo hahi =>
      read_write_of_not_sameByte hm v (not_sameByte_of_no_echo ⟨halo, hahi⟩ ⟨hlo, hhi⟩ s.boot)⟩

/-- Settles O25: the overlay decides which image's cell an address reaches, and the two cells differ. -/
theorem overlayWritesReachOneImage : Obligations.OverlayWritesReachOneImage := by
  intro s up a b v hm ha hb
  constructor
  · have hk := cellOf_low hb (!up)
    have hne := hk ▸ cellOf_low_ne_cellOf_not ha hb up
    rw [read_setBootOverlay hk, read_setBootOverlay hk]
    exact peek_write_other (s := s.setBootOverlay up) hm hne
  · have hgap : ¬Claims.inGap a := by
      unfold Claims.inGap
      omega
    have hboot : ((s.setBootOverlay up).write a v).boot = up := write_boot _ a v
    rw [setBootOverlay_of_boot_eq hboot]
    exact read_write_of_sameByte (s := s.setBootOverlay up) hm v (sameByte_self hgap up)

/-- Settles O27: the pop reads the two bytes pushed, or the open bus where they were discarded. -/
theorem popAfterPush : Obligations.PopAfterPush := by
  intro s v hm
  have htwo : s.sp - 2 = s.sp - 1 - 1 := by bv_omega
  rw [htwo, pop16_push16]
  refine ⟨push16_sp s v, rfl, fun hhigh hlow => ?_, fun hgap => ?_, fun hgap => ?_⟩
  · rw [read_push16_high hm hhigh, read_push16_low hm hlow, joinBytes_hiByte_loByte]
  · rw [joinBytes_toNat_div, read_of_inGap hgap]
    rfl
  · rw [joinBytes_toNat_mod, read_of_inGap hgap]
    rfl

/-- Settles O56: the stores of a form are those of Form.stores, and a write leaves every other cell alone. -/
theorem memoryFrame : Obligations.MemoryFrame := by
  intro i s t hm ht
  rw [exec_eq_runForm] at ht
  cases ht
  exact ⟨fun _ => runForm_read hm i.form, fun _ => runForm_peek hm i.form⟩

end Sys2Proof
end

section
/-! SUPPORT. What an instruction leaves alone: the flags its column keeps (R12), the registers that are none of its destinations, and the latches but for RETI, DI, EI, HALT and STOP. -/

namespace Sys2Proof

open Machine

/-- The instructions that write a latch (R299, R321, R323, R325, R326). -/
def Form.writesLatch : Form → Bool
  | .reti | .di | .ei | .halt | .stop _ => true
  | _ => false

theorem Form.writesLatch_cases {f : Form} (h : f.writesLatch = true) :
    f = .reti ∨ f = .di ∨ f = .ei ∨ f = .halt ∨ ∃ x, f = .stop x := by
  cases f with
  | reti | di | ei | halt | stop => simp
  | _ => cases h

/-- What a flag column says of the states before and after (R12). -/
def FlagMarks.Hold (m : FlagMarks) (s t : State) : Prop :=
  m.z.holds s.zf t.zf ∧ m.n.holds s.nf t.nf ∧ m.h.holds s.hf t.hf ∧ m.c.holds s.cf t.cf

@[simp] theorem FlagMarks.hold_keep_iff (s t : State) :
    FlagMarks.Hold ⟨.keep, .keep, .keep, .keep⟩ s t ↔
      t.zf = s.zf ∧ t.nf = s.nf ∧ t.hf = s.hf ∧ t.cf = s.cf := Iff.rfl

namespace Machine

/-! ### Registers after the writes of registers and pairs (R21, R23, R109, R110) -/

theorem setR8_r8_of_ne {r q : Reg8} (h : q ≠ r) (v : Byte) (s : State) :
    (s.setR8 r v).r8 q = s.r8 q := by
  rw [r8_setR8, if_neg h]

/-- A write of a pair is a write of its two halves. -/
theorem setR8_setR8_r8_of_not_mem {hi lo r : Reg8} (h : r ∉ [hi, lo]) (x y : Byte) (s : State) :
    ((s.setR8 hi x).setR8 lo y).r8 r = s.r8 r := by
  obtain ⟨hhi, hlo⟩ := List.ne_and_not_mem_of_not_mem_cons h
  rw [setR8_r8_of_ne (List.ne_of_not_mem_cons hlo), setR8_r8_of_ne hhi]

theorem setR16_r8_of_not_mem {p : Reg16} {r : Reg8} (h : r ∉ p.halves) (v : Word) (s : State) :
    (s.setR16 p v).r8 r = s.r8 r := by
  cases p with
  | bc | de | hl => exact setR8_setR8_r8_of_not_mem h (hiByte v) (loByte v) s
  | sp => cases r <;> rfl

theorem setHl_r8_of_not_mem {r : Reg8} (h : r ∉ [Reg8.h, Reg8.l]) (v : Word) (s : State) :
    (s.setHl v).r8 r = s.r8 r :=
  setR16_r8_of_not_mem (p := .hl) h v s

theorem setStk_r8_of_not_mem {q : RegStk} {r : Reg8} (h : r ∉ q.halves) (v : Word) (s : State) :
    (s.setStk q v).r8 r = s.r8 r := by
  cases q with
  | bc | de | hl => exact setR8_setR8_r8_of_not_mem h (hiByte v) (loByte v) s
  | af => exact (setR8_r8_of_ne (List.ne_of_not_mem_cons h) _ _).trans (setF_r8 _ _ _)

theorem applyAlu_r8_of_not_mem {op : AluOp} {r : Reg8} (h : r ∉ op.dests) (v : Byte) (s : State) :
    (applyAlu op v s).r8 r = s.r8 r := by
  cases op with
  | cp => exact setFlags_r8 _ _ _ _ _ _
  | add | adc | sub | sbc | and | xor | or =>
    have hne : r ≠ .a := List.ne_of_not_mem_cons h
    exact (setR8_r8_of_ne hne _ _).trans (setFlags_r8 _ _ _ _ _ _)

@[simp] theorem setSp_r8 (s : State) (v : Word) (r : Reg8) : { s with sp := v }.r8 r = s.r8 r := by
  cases r <;> rfl

/-- A routine leaves every register that is none of its destinations. -/
theorem runForm_r8_of_not_mem {f : Form} {r : Reg8} (h : r ∉ f.dests) (s : State) :
    (runForm f s).r8 r = s.r8 r := by
  cases f with
  | ldRR | ldRN | ldRAtHl | incR | decR | shiftR | resR | setR =>
    have hne := List.ne_of_not_mem_cons h
    simp [runForm, runLdRR, runLdRN, runLdRAtHl, runIncR, runDecR, runShiftR, runResR, runSetR,
      setR8_r8_of_ne hne]
  | ldAAtBc | ldAAtDe | ldAAtNn | ldhAAtC | ldhAAtN | daa | cpl | rlca | rrca | rla | rra =>
    have hne : r ≠ .a := List.ne_of_not_mem_cons h
    simp [runForm, runLdAAtBc, runLdAAtDe, runLdAAtNn, runLdhAAtC, runLdhAAtN, loadA, runDaa,
      runCpl, runRlca, runRrca, runRla, runRra, rotateA, setR8_r8_of_ne hne]
  | ldAtHlR | ldAtHlN | ldAtBcA | ldAtDeA | ldAtNnA | ldhAtCA | ldhAtNA =>
    simp [runForm, runLdAtHlR, runLdAtHlN, runLdAtBcA, runLdAtDeA, runLdAtNnA, runLdhAtCA,
      runLdhAtNA, storeA]
  | ldAtHlIncA | ldAtHlDecA | addHlRr | ldHlSpE =>
    simp [runForm, runLdAtHlIncA, runLdAtHlDecA, runAddHlRr, runLdHlSpE, setHl_r8_of_not_mem h]
  | ldAAtHlInc | ldAAtHlDec =>
    obtain ⟨hne, hhl⟩ := List.ne_and_not_mem_of_not_mem_cons h
    simp [runForm, runLdAAtHlInc, runLdAAtHlDec, setHl_r8_of_not_mem hhl, setR8_r8_of_ne hne]
  | ldRrNn | incRr | decRr =>
    simp [runForm, runLdRrNn, runIncRr, runDecRr, setR16_r8_of_not_mem h]
  | ldSpHl | addSpE =>
    simp [runForm, runLdSpHl, runAddSpE, setR16_r8_of_not_mem (p := .sp) h]
  | ldAtNnSp | push | callNn | rst =>
    simp [runForm, runLdAtNnSp, runPush, runCallNn, runRst]
  | pop => simp [runForm, runPop, State.pop16, setStk_r8_of_not_mem h]
  | aluR | aluAtHl | aluN =>
    simp [runForm, runAluR, runAluAtHl, runAluN, applyAlu_r8_of_not_mem h]
  | incAtHl | decAtHl | shiftAtHl | resAtHl | setAtHl =>
    simp [runForm, runIncAtHl, runDecAtHl, runShiftAtHl, runResAtHl, runSetAtHl]
  | scf | ccf | bitR | bitAtHl =>
    simp [runForm, runScf, runCcf, runBitR, runBitAtHl, testBit]
  | jpCcNn | jrCcE | retCc | halt =>
    simp only [runForm, runJpCcNn, runJrCcE, runRetCc, runHalt]
    split <;> cases r <;> rfl
  | callCcNn =>
    simp only [runForm, runCallCcNn, runCallNn]
    split <;> simp
  | jpNn | jpHl | jrE | ret | reti | nop | stop | di | ei => cases r <;> rfl

/-! ### SP -/

@[simp] theorem applyAlu_sp (op : AluOp) (v : Byte) (s : State) :
    (applyAlu op v s).sp = s.sp := by cases op <;> rfl

theorem setR16_sp_of_ne {p : Reg16} (h : p ≠ .sp) (v : Word) (s : State) :
    (s.setR16 p v).sp = s.sp := by
  cases p with
  | sp => exact absurd rfl h
  | bc | de | hl => rfl

theorem runForm_sp_of_not_writesSp {f : Form} (h : f.writesSp = false) (s : State) :
    (runForm f s).sp = s.sp := by
  cases f with
  | ldSpHl | push | pop | addSpE | callNn | callCcNn | ret | retCc | reti | rst => cases h
  | ldRrNn | incRr | decRr =>
    have hne := of_decide_eq_false h
    simp [runForm, runLdRrNn, runIncRr, runDecRr, setR16_sp_of_ne hne]
  | ldRR | ldRN | ldRAtHl | ldAtHlR | ldAtHlN | ldAtHlIncA | ldAtHlDecA =>
    simp [runForm, runLdRR, runLdRN, runLdRAtHl, runLdAtHlR, runLdAtHlN, runLdAtHlIncA,
      runLdAtHlDecA]
  | ldAtBcA | ldAtDeA | ldAtNnA | ldhAtCA | ldhAtNA | ldAtNnSp =>
    simp [runForm, runLdAtBcA, runLdAtDeA, runLdAtNnA, runLdhAtCA, runLdhAtNA, storeA,
      runLdAtNnSp]
  | aluR | aluAtHl | aluN | incR | incAtHl | decR | decAtHl =>
    simp [runForm, runAluR, runAluAtHl, runAluN, runIncR, runIncAtHl, runDecR, runDecAtHl]
  | shiftR | shiftAtHl | resR | resAtHl | setR | setAtHl =>
    simp [runForm, runShiftR, runShiftAtHl, runResR, runResAtHl, runSetR, runSetAtHl]
  | jpCcNn | jrCcE | halt =>
    simp only [runForm, runJpCcNn, runJrCcE, runHalt]
    split <;> rfl
  | _ => rfl

/-! ### The four latches of the engine (R30 to R33) -/

/-- The state with the four latches replaced. -/
def State.withLatches (ime pending halted stopped : Bool) (s : State) : State :=
  { s with ime := ime, imePending := pending, halted := halted, stopped := stopped }

theorem withLatches_self (s : State) :
    s.withLatches s.ime s.imePending s.halted s.stopped = s := rfl

/-! The views read no latch, and the updates keep them all: each commutes with the replacement. -/

section withLatches

variable (ime pend hlt stp : Bool) (s : State)

@[simp] theorem withLatches_a : (s.withLatches ime pend hlt stp).a = s.a := rfl
@[simp] theorem withLatches_c : (s.withLatches ime pend hlt stp).c = s.c := rfl
@[simp] theorem withLatches_zf : (s.withLatches ime pend hlt stp).zf = s.zf := rfl
@[simp] theorem withLatches_nf : (s.withLatches ime pend hlt stp).nf = s.nf := rfl
@[simp] theorem withLatches_hf : (s.withLatches ime pend hlt stp).hf = s.hf := rfl
@[simp] theorem withLatches_cf : (s.withLatches ime pend hlt stp).cf = s.cf := rfl
@[simp] theorem withLatches_pc : (s.withLatches ime pend hlt stp).pc = s.pc := rfl
@[simp] theorem withLatches_sp : (s.withLatches ime pend hlt stp).sp = s.sp := rfl
@[simp] theorem withLatches_bc : (s.withLatches ime pend hlt stp).bc = s.bc := rfl
@[simp] theorem withLatches_de : (s.withLatches ime pend hlt stp).de = s.de := rfl
@[simp] theorem withLatches_hl : (s.withLatches ime pend hlt stp).hl = s.hl := rfl

@[simp] theorem withLatches_r8 (r : Reg8) :
    (s.withLatches ime pend hlt stp).r8 r = s.r8 r := by cases r <;> rfl

@[simp] theorem withLatches_r16 (p : Reg16) :
    (s.withLatches ime pend hlt stp).r16 p = s.r16 p := by cases p <;> rfl

@[simp] theorem withLatches_stk (q : RegStk) :
    (s.withLatches ime pend hlt stp).stk q = s.stk q := by cases q <;> rfl

@[simp] theorem withLatches_cond (cc : Cond) :
    (s.withLatches ime pend hlt stp).cond cc = s.cond cc := by cases cc <;> rfl

@[simp] theorem withLatches_read (y : Word) :
    (s.withLatches ime pend hlt stp).read y = s.read y := rfl

@[simp] theorem withLatches_setFlags (z n h c : Bool) :
    (s.withLatches ime pend hlt stp).setFlags z n h c =
      (s.setFlags z n h c).withLatches ime pend hlt stp := rfl

@[simp] theorem withLatches_setR8 (r : Reg8) (v : Byte) :
    (s.withLatches ime pend hlt stp).setR8 r v =
      (s.setR8 r v).withLatches ime pend hlt stp := by cases r <;> rfl

@[simp] theorem withLatches_setHl (v : Word) :
    (s.withLatches ime pend hlt stp).setHl v = (s.setHl v).withLatches ime pend hlt stp := rfl

@[simp] theorem withLatches_setR16 (p : Reg16) (v : Word) :
    (s.withLatches ime pend hlt stp).setR16 p v =
      (s.setR16 p v).withLatches ime pend hlt stp := by cases p <;> rfl

@[simp] theorem withLatches_setStk (q : RegStk) (v : Word) :
    (s.withLatches ime pend hlt stp).setStk q v =
      (s.setStk q v).withLatches ime pend hlt stp := by cases q <;> rfl

@[simp] theorem withLatches_advance (n : Word) :
    (s.withLatches ime pend hlt stp).advance n =
      (s.advance n).withLatches ime pend hlt stp := rfl

@[simp] theorem withLatches_jump (target : Word) :
    (s.withLatches ime pend hlt stp).jump target =
      (s.jump target).withLatches ime pend hlt stp := rfl

@[simp] theorem withLatches_write (x : Word) (v : Byte) :
    (s.withLatches ime pend hlt stp).write x v =
      (s.write x v).withLatches ime pend hlt stp := by
  have hmem : ((s.withLatches ime pend hlt stp).write x v).mem = (s.write x v).mem := by
    rw [write_mem, write_mem]
    rfl
  rw [write_eq, hmem, write_eq s]
  rfl

@[simp] theorem withLatches_push16 (v : Word) :
    (s.withLatches ime pend hlt stp).push16 v =
      (s.push16 v).withLatches ime pend hlt stp := by
  rw [push16_eq, push16_eq, withLatches_sp, withLatches_write, withLatches_write]
  rfl

@[simp] theorem withLatches_applyAlu (op : AluOp) (v : Byte) :
    applyAlu op v (s.withLatches ime pend hlt stp) =
      (applyAlu op v s).withLatches ime pend hlt stp := by cases op <;> rfl

end withLatches

/-- Every other routine is built of operations that read no latch and keep them all. -/
theorem runForm_withLatches {f : Form} (h : f.writesLatch = false) (ime pend hlt stp : Bool)
    (s : State) :
    runForm f (s.withLatches ime pend hlt stp) =
      (runForm f s).withLatches ime pend hlt stp := by
  cases f with
  | reti | di | ei | halt | stop => cases h
  | ldRR | ldRN | ldRAtHl | ldAtHlR | ldAtHlN | ldAtHlIncA | ldAtHlDecA =>
    simp [runForm, runLdRR, runLdRN, runLdRAtHl, runLdAtHlR, runLdAtHlN, runLdAtHlIncA,
      runLdAtHlDecA]
  | ldAtBcA | ldAtDeA | ldAtNnA | ldhAtCA | ldhAtNA =>
    simp [runForm, runLdAtBcA, runLdAtDeA, runLdAtNnA, runLdhAtCA, runLdhAtNA, storeA]
  | ldRrNn | ldAtNnSp | push | incRr | decRr | addHlRr =>
    simp [runForm, runLdRrNn, runLdAtNnSp, State.writeWord, runPush, runIncRr, runDecRr,
      runAddHlRr]
  | pop q => cases q <;> rfl
  | aluR | aluAtHl | aluN | incR | incAtHl | decR | decAtHl =>
    simp [runForm, runAluR, runAluAtHl, runAluN, runIncR, runIncAtHl, runDecR, runDecAtHl]
  | shiftR | shiftAtHl | bitR | resR | resAtHl | setR | setAtHl =>
    simp [runForm, runShiftR, runShiftAtHl, runBitR, testBit, runResR, runResAtHl, runSetR,
      runSetAtHl]
  | callNn | rst => simp [runForm, runCallNn, runRst]
  | jpCcNn | jrCcE | retCc =>
    simp only [runForm, runJpCcNn, runJrCcE, runRetCc, withLatches_cond]
    split <;> rfl
  | callCcNn =>
    simp only [runForm, runCallCcNn, runCallNn, withLatches_cond]
    split <;> simp
  | _ => rfl

/-- A routine that commutes with every replacement of the latches leaves them as they were. -/
theorem runForm_eq_withLatches {f : Form} (h : f.writesLatch = false) (s : State) :
    runForm f s = (runForm f s).withLatches s.ime s.imePending s.halted s.stopped :=
  runForm_withLatches h s.ime s.imePending s.halted s.stopped s

/-- Each latch is kept but by the instructions whose rules name it. -/
theorem runForm_latches (f : Form) (s : State) :
    (f ≠ .reti → f ≠ .di → (runForm f s).ime = s.ime) ∧
    (f ≠ .ei → f ≠ .di → (runForm f s).imePending = s.imePending) ∧
    (f ≠ .halt → (runForm f s).halted = s.halted) ∧
    ((∀ x, f ≠ .stop x) → (runForm f s).stopped = s.stopped) := by
  cases hw : f.writesLatch with
  | false =>
    rw [runForm_eq_withLatches hw]
    exact ⟨fun _ _ => rfl, fun _ _ => rfl, fun _ => rfl, fun _ => rfl⟩
  | true =>
    obtain rfl | rfl | rfl | rfl | ⟨x, rfl⟩ := Form.writesLatch_cases hw
    · exact ⟨fun h => absurd rfl h, fun _ _ => rfl, fun _ => rfl, fun _ => rfl⟩
    · exact ⟨fun _ h => absurd rfl h, fun _ h => absurd rfl h, fun _ => rfl, fun _ => rfl⟩
    · exact ⟨fun _ _ => rfl, fun h => absurd rfl h, fun _ => rfl, fun _ => rfl⟩
    · rw [runForm, runHalt_eq]
      exact ⟨fun _ _ => rfl, fun _ _ => rfl, fun h => absurd rfl h, fun _ => rfl⟩
    · exact ⟨fun _ _ => rfl, fun _ _ => rfl, fun _ => rfl, fun h => absurd rfl (h x)⟩

/-! ### Flags (R12) -/

theorem applyAlu_marks (op : AluOp) (v : Byte) (s : State) :
    op.marks.Hold s (applyAlu op v s) := by
  cases op with
  | add | adc | sub | sbc | cp => exact ⟨trivial, rfl, trivial, trivial⟩
  | and | xor | or => exact ⟨trivial, rfl, rfl, rfl⟩

/-- The flags that a routine writes are the ones its column says. A routine that writes none keeps all four; the others end in one write of the four, and the column is read off it. -/
theorem runForm_marks (f : Form) (s : State) : f.marks.Hold s (runForm f s) := by
  cases f with
  | ldRR | ldRN | ldRAtHl | ldAtHlR | ldAtHlN | ldAtHlIncA | ldAtHlDecA =>
    simp [Form.marks, runForm, runLdRR, runLdRN, runLdRAtHl, runLdAtHlR, runLdAtHlN,
      runLdAtHlIncA, runLdAtHlDecA]
  | ldAtBcA | ldAtDeA | ldAtNnA | ldhAtCA | ldhAtNA =>
    simp [Form.marks, runForm, runLdAtBcA, runLdAtDeA, runLdAtNnA, runLdhAtCA, runLdhAtNA, storeA]
  | ldRrNn | ldAtNnSp | push | incRr | decRr =>
    simp [Form.marks, runForm, runLdRrNn, runLdAtNnSp, runPush, runIncRr, runDecRr]
  | resR | resAtHl | setR | setAtHl =>
    simp [Form.marks, runForm, runResR, runResAtHl, runSetR, runSetAtHl]
  | callNn | rst => simp [Form.marks, runForm, runCallNn, runRst]
  | jpCcNn | jrCcE | retCc | halt =>
    simp only [runForm, runJpCcNn, runJrCcE, runRetCc, runHalt]
    split <;> exact ⟨rfl, rfl, rfl, rfl⟩
  | callCcNn =>
    simp only [runForm, runCallCcNn, runCallNn]
    split <;> simp [Form.marks]
  | pop q =>
    cases q with
    | af => exact ⟨trivial, trivial, trivial, trivial⟩
    | bc | de | hl => exact ⟨rfl, rfl, rfl, rfl⟩
  | aluR op | aluAtHl op | aluN op => exact applyAlu_marks op _ s
  | incR | incAtHl | decR | decAtHl => exact ⟨trivial, rfl, trivial, rfl⟩
  | daa => exact ⟨trivial, rfl, rfl, trivial⟩
  | ccf | rlca | rrca | rla | rra => exact ⟨rfl, rfl, rfl, trivial⟩
  | addHlRr | addSpE | ldHlSpE => exact ⟨rfl, rfl, trivial, trivial⟩
  | bitR | bitAtHl => exact ⟨trivial, rfl, rfl, rfl⟩
  | shiftR op | shiftAtHl op =>
    cases op with
    | swap => exact ⟨trivial, rfl, rfl, rfl⟩
    | rlc | rrc | rl | rr | sla | sra | srl => exact ⟨trivial, rfl, rfl, trivial⟩
  | _ => exact ⟨rfl, rfl, rfl, rfl⟩

end Machine

/-- Settles O57: the flags of each routine against the column of its form. -/
theorem flagFrame : Obligations.FlagFrame := by
  intro i s t ht
  rw [exec_eq_runForm] at ht
  cases ht
  exact runForm_marks i.form s

/-- Settles O58: an instruction other than RETI, DI, EI, HALT and STOP has another form. -/
theorem registerFrame : Obligations.RegisterFrame := by
  intro i s t ht
  rw [exec_eq_runForm] at ht
  cases ht
  have hform : ∀ j, i ≠ j → i.form ≠ j.form := fun _ => form_injective.ne
  obtain ⟨hime, hpending, hhalted, hstopped⟩ := runForm_latches i.form s
  exact ⟨fun _ hr => runForm_r8_of_not_mem hr s, fun hsp => runForm_sp_of_not_writesSp hsp s,
    runForm_boot i.form s,
    fun hreti hdi => hime (hform .reti hreti) (hform .di hdi),
    fun hei hdi => hpending (hform .ei hei) (hform .di hdi),
    fun hhalt => hhalted (hform .halt hhalt),
    fun hstop => hstopped fun x => hform (.stop x) (hstop x)⟩

end Sys2Proof
end

section
/-! SUPPORT. The step as a whole (R100, R357): its count in each case, the invariant, the two wait states, and the interrupt-enable latches that nothing reads under `none`. -/

namespace Sys2Proof

open Machine

/-- Every routine costs 4 to 24 cycles (R121). -/
theorem Form.cycles_bounds (f : Form) (s : State) : 4 ≤ f.cycles s ∧ f.cycles s ≤ 24 := by
  cases f with
  | jpCcNn cc | jrCcE cc | callCcNn cc | retCc cc =>
    simp only [Form.cycles]
    split <;> decide
  | _ => simp [Form.cycles]

namespace Machine

/-! ### The cases of a step, and their counts -/

theorem takesInterrupt_of_none {cfg : Config} (hcfg : cfg.interruptDispatch = .none) (s : State) :
    s.takesInterrupt cfg = false := by
  simp [State.takesInterrupt, hcfg]

theorem pending_ne_zero_of_takesInterrupt {cfg : Config} {s : State}
    (h : s.takesInterrupt cfg = true) : s.pending ≠ 0 := by
  rw [State.takesInterrupt, Bool.and_eq_true] at h
  exact bne_iff_ne.mp h.2

theorem stepWith_of_halted {cfg : Config} {s : State} (hs : s.stopped = false)
    (ht : s.takesInterrupt cfg = false) (hh : s.halted = true) :
    stepWith cfg s = .next s.haltedStep := by
  simp [stepWith, hs, ht, hh]

theorem stepCycles_of_halted {cfg : Config} {s : State} (hs : s.stopped = false)
    (ht : s.takesInterrupt cfg = false) (hh : s.halted = true) : stepCycles cfg s = 4 := by
  simp [stepCycles, hs, ht, hh]

theorem stepCycles_of_fetch {cfg : Config} {s : State} {i : Instr} (hr : s.running cfg)
    (hf : s.fetch cfg = .instr i) : stepCycles cfg s = i.form.cycles s := by
  obtain ⟨hs, hh, ht⟩ := hr
  simp [stepCycles, hs, ht, hh, hf]

theorem stepCycles_of_absent {cfg : Config} {s : State} {b : Byte} {x : Option Byte}
    (hr : s.running cfg) (hf : s.fetch cfg = .unimplemented b x) : stepCycles cfg s = 0 := by
  obtain ⟨hs, hh, ht⟩ := hr
  simp [stepCycles, hs, ht, hh, hf]

/-- A step answers a next state and costs 4 to 24 cycles, or is the fault of an absent opcode and costs none (R104, R121). -/
theorem stepWith_safe_or_absent (cfg : Config) (s : State) :
    (SafeStep cfg s ∧ 4 ≤ stepCycles cfg s ∧ stepCycles cfg s ≤ 24) ∨
    (∃ b x, stepWith cfg s = .fault (.unimplementedOpcode b x)) ∧ stepCycles cfg s = 0 := by
  have hcase := stepWith_cases cfg s
  generalize hr : stepWith cfg s = r at hcase
  cases hcase with
  | stopped hs => exact .inl ⟨⟨_, hr⟩, by rw [stepCycles_of_stopped hs]; decide⟩
  | interrupt hs ht => exact .inl ⟨⟨_, hr⟩, by rw [stepCycles_of_takesInterrupt hs ht]; decide⟩
  | halted hs ht hh => exact .inl ⟨⟨_, hr⟩, by rw [stepCycles_of_halted hs ht hh]; decide⟩
  | routine i hrun hf =>
    exact .inl ⟨⟨_, hr⟩, by rw [stepCycles_of_fetch hrun hf]; exact i.form.cycles_bounds s⟩
  | absent b x hrun hf => exact .inr ⟨⟨b, x, rfl⟩, stepCycles_of_absent hrun hf⟩

theorem not_safeStep_of_fault {cfg : Config} {s : State} {r : Fault}
    (h : stepWith cfg s = .fault r) : ¬SafeStep cfg s := by
  rintro ⟨t, ht⟩
  cases h.symm.trans ht

/-- Under the default tables every byte but the eleven has an instruction. -/
theorem safeStep_of_not_absent {s : State} (hr : s.running standardConfig)
    (h : s.read s.pc ∉ Claims.absentEleven) : SafeStep standardConfig s := by
  by_cases hpre : s.read s.pc = 0xCB
  · obtain ⟨-, hsafe⟩ := extendedDispatch
    exact hsafe s hr hpre
  · have hp := (defaultPresentPrimary_iff _).mpr ⟨hpre, h⟩
    obtain ⟨i, hdec, -⟩ := decodePrimary_of_present (cfg := standardConfig) hp hp
      (s.read (s.pc + 1)) (s.read (s.pc + 2))
    exact ⟨_, stepWith_of_fetch hr (by rw [fetch_of_ne_prefix hpre, hdec])⟩

/-! ### The two wait latches (R32, R33, R356) -/

@[simp] theorem eiDelay_halted (s : State) (p : Bool) (i : Instr) :
    (s.eiDelay p i).halted = s.halted := by rw [eiDelay_eq]

@[simp] theorem eiDelay_stopped (s : State) (p : Bool) (i : Instr) :
    (s.eiDelay p i).stopped = s.stopped := by rw [eiDelay_eq]

@[simp] theorem eiDelay_mem (s : State) (p : Bool) (i : Instr) :
    (s.eiDelay p i).mem = s.mem := by rw [eiDelay_eq]

@[simp] theorem haltedStep_halted (s : State) :
    s.haltedStep.halted = (s.halted && s.pending == 0) := by rw [haltedStep_eq]

@[simp] theorem haltedStep_stopped (s : State) : s.haltedStep.stopped = s.stopped := by
  rw [haltedStep_eq]

@[simp] theorem haltedStep_mem (s : State) : s.haltedStep.mem = s.mem := by rw [haltedStep_eq]

@[simp] theorem interruptEntry_halted (s : State) : s.interruptEntry.halted = false := by
  rw [interruptEntry_eq]

@[simp] theorem interruptEntry_stopped (s : State) : s.interruptEntry.stopped = s.stopped := by
  simp [interruptEntry_eq]

/-- HALT alone sets HALTED, and only with nothing pending (R321). -/
theorem halt_of_runForm_halted {f : Form} {s : State} (hs : s.halted = false)
    (h : (runForm f s).halted = true) : f = .halt ∧ s.pending = 0 := by
  by_cases hf : f = .halt
  · subst hf
    rw [runForm, runHalt_eq, hs] at h
    exact ⟨rfl, of_decide_eq_true h⟩
  · obtain ⟨-, -, hkept, -⟩ := runForm_latches f s
    rw [hkept hf, hs] at h
    cases h

/-- STOP alone sets STOPPED (R323). -/
theorem stop_of_runForm_stopped {f : Form} {s : State} (hs : s.stopped = false)
    (h : (runForm f s).stopped = true) : ∃ x, f = .stop x := by
  by_contra hf
  obtain ⟨-, -, -, hkept⟩ := runForm_latches f s
  rw [hkept fun x e => hf ⟨x, e⟩, hs] at h
  cases h

/-! ### The invariant -/

/-- HALT and STOP are two instructions, and a routine runs with neither latch set. -/
theorem runForm_oneWait {f : Form} {s : State} (hh : s.halted = false) (hs : s.stopped = false) :
    (runForm f s).oneWait := by
  rintro ⟨hhalted, hstopped⟩
  obtain ⟨rfl, -⟩ := halt_of_runForm_halted hh hhalted
  obtain ⟨x, hx⟩ := stop_of_runForm_stopped hs hstopped
  cases hx

theorem stepWith_inv {cfg : Config} {s t : State} (hinv : s.Inv)
    (h : stepWith cfg s = .next t) : t.Inv := by
  obtain ⟨hwf, hone⟩ := hinv
  have hcase := stepWith_cases cfg s
  rw [h] at hcase
  cases hcase with
  | stopped => exact ⟨hwf, hone⟩
  | interrupt => exact ⟨interruptEntry_wf hwf, by simp⟩
  | halted hs => exact ⟨wf_of_mem (haltedStep_mem s) hwf, by simp [hs]⟩
  | routine i hr =>
    obtain ⟨hs, hh, -⟩ := hr
    refine ⟨wf_of_mem (eiDelay_mem _ _ _) (runForm_wf i.form hwf), ?_⟩
    rw [State.oneWait, eiDelay_halted, eiDelay_stopped]
    exact runForm_oneWait hh hs

/-! ### The interrupt-enable latches forgotten (R30) -/

@[simp] theorem eiDelay_forgetIme (s : State) (p : Bool) (i : Instr) :
    (s.eiDelay p i).forgetIme = s.forgetIme := by
  rw [eiDelay_eq]
  rfl

/-- RETI, DI and EI write the two latches and read neither; HALT and STOP write the other two. -/
theorem runForm_forgetIme (f : Form) (s : State) :
    (runForm f s.forgetIme).forgetIme = (runForm f s).forgetIme := by
  cases hw : f.writesLatch with
  | false =>
    have hforget : s.forgetIme = s.withLatches false false s.halted s.stopped := rfl
    rw [hforget, runForm_withLatches hw, runForm_eq_withLatches hw]
    rfl
  | true =>
    obtain rfl | rfl | rfl | rfl | ⟨x, rfl⟩ := Form.writesLatch_cases hw
    · rfl
    · rfl
    · rfl
    · rw [runForm, runForm, runHalt_eq, runHalt_eq]
      rfl
    · rfl

/-- Under `none` no case of a step reads the two latches. -/
theorem forgetImeResult_stepWith {cfg : Config} (hcfg : cfg.interruptDispatch = .none)
    (s : State) :
    forgetImeResult (stepWith cfg s.forgetIme) = forgetImeResult (stepWith cfg s) := by
  have ht' : s.forgetIme.takesInterrupt cfg = false := takesInterrupt_of_none hcfg _
  have hcase := stepWith_cases cfg s
  generalize stepWith cfg s = r at hcase
  cases hcase with
  | stopped hs => rw [stepWith_of_stopped (s := s.forgetIme) hs]; rfl
  | interrupt _ ht => rw [takesInterrupt_of_none hcfg] at ht; cases ht
  | halted hs _ hh =>
    rw [stepWith_of_halted (s := s.forgetIme) hs ht' hh, haltedStep_eq, haltedStep_eq]
    rfl
  | routine i hr hf =>
    obtain ⟨hs, hh, -⟩ := hr
    rw [stepWith_of_fetch (s := s.forgetIme) ⟨hs, hh, ht'⟩ hf]
    simp [forgetImeResult, runForm_forgetIme]
  | absent b x hr hf =>
    obtain ⟨hs, hh, -⟩ := hr
    rw [stepWith_of_absent (s := s.forgetIme) ⟨hs, hh, ht'⟩ hf]

theorem cycles_forgetIme (f : Form) (s : State) : f.cycles s.forgetIme = f.cycles s := by
  cases f with
  | jpCcNn cc | jrCcE cc | callCcNn cc | retCc cc => cases cc <;> rfl
  | _ => rfl

theorem stepCycles_forgetIme {cfg : Config} (hcfg : cfg.interruptDispatch = .none) (s : State) :
    stepCycles cfg s.forgetIme = stepCycles cfg s := by
  rw [stepCycles, stepCycles, takesInterrupt_of_none hcfg, takesInterrupt_of_none hcfg]
  have hfetch : s.forgetIme.fetch cfg = s.fetch cfg := rfl
  rw [hfetch]
  simp only [cycles_forgetIme]
  rfl

end Machine

/-- Settles O12: a step is the step of the state with the two latches forgotten, which the two states share. -/
theorem imeUnobservableUnderNone : Obligations.ImeUnobservableUnderNone := by
  intro cfg s s' hcfg h
  constructor
  · rw [← forgetImeResult_stepWith hcfg s, h, forgetImeResult_stepWith hcfg s']
  · rw [← stepCycles_forgetIme hcfg s, h, stepCycles_forgetIme hcfg s']

/-- Settles O13: the host's step is the step under the default parameters. -/
theorem stepKeepsInvariant : Obligations.StepKeepsInvariant :=
  ⟨fun _ _ => stepWith_inv (cfg := standardConfig), fun _ _ _ => stepWith_inv⟩

/-- Settles O17: the fault of a step is that of an absent opcode, and the default tables lack the eleven alone. -/
theorem stepCompletesUnlessAbsent : Obligations.StepCompletesUnlessAbsent := by
  refine ⟨fun cfg s => ?_, fun s => ⟨fun hsafe => ?_, ?_⟩⟩
  · obtain ⟨hsafe, -⟩ | ⟨⟨b, x, hfault⟩, hzero⟩ := stepWith_safe_or_absent cfg s
    · exact .inl hsafe
    · exact .inr ⟨b, x, hfault, hzero⟩
  · by_contra hno
    simp only [not_or, Bool.not_eq_true, not_not] at hno
    obtain ⟨hs, hh, habsent⟩ := hno
    obtain ⟨-, -, -, -, -, -, hfault⟩ := defaultTables
    exact not_safeStep_of_fault (hfault s ⟨hs, hh, takesInterrupt_of_none rfl s⟩ habsent) hsafe
  · intro h
    cases hs : s.stopped with
    | true => exact ⟨s, stepWith_of_stopped hs _⟩
    | false =>
      cases hh : s.halted with
      | true => exact ⟨_, stepWith_of_halted hs (takesInterrupt_of_none rfl s) hh⟩
      | false =>
        rw [hs, hh] at h
        exact safeStep_of_not_absent ⟨hs, hh, takesInterrupt_of_none rfl s⟩ (by simpa using h)

/-- Settles O18: case by case of the step. -/
theorem waitStates : Obligations.WaitStates := by
  intro cfg s t h
  have hcase := stepWith_cases cfg s
  rw [h] at hcase
  cases hcase with
  | stopped hs =>
    refine ⟨id, fun hs' => ?_, fun hh hh' => ?_, fun hs' => ?_⟩
    · cases hs.symm.trans hs'
    · cases hh.symm.trans hh'
    · cases hs.symm.trans hs'
  | interrupt hs ht =>
    exact ⟨by simp [hs], by simp [hs], by simp, fun _ _ =>
      iff_of_true (interruptEntry_halted s) (pending_ne_zero_of_takesInterrupt ht)⟩
  | halted hs _ hh => simp [hs, hh]
  | routine i hr hf =>
    obtain ⟨hs, hh, -⟩ := hr
    simp only [eiDelay_halted, eiDelay_stopped, hf, Decoded.instr.injEq]
    refine ⟨fun hs' => ?_, fun _ hstopped => ?_, fun _ hhalted => ?_, fun _ hh' => ?_⟩
    · cases hs.symm.trans hs'
    · obtain ⟨x, hx⟩ := stop_of_runForm_stopped hs hstopped
      exact ⟨x, form_injective hx⟩
    · obtain ⟨hform, hp⟩ := halt_of_runForm_halted hh hhalted
      exact ⟨form_injective hform, hp⟩
    · cases hh.symm.trans hh'

/-- Settles O60: a safe step costs between 4 and 24 cycles and a fault none; a condition that fails is the cheaper way of its row. -/
theorem cycleCounts : Obligations.CycleCounts := by
  refine ⟨fun cfg s => ?_, fun f cc s s' hf hcc hcc' => ?_⟩
  · obtain ⟨hsafe, hlo, hhi⟩ | ⟨⟨b, x, hfault⟩, hzero⟩ := stepWith_safe_or_absent cfg s
    · exact ⟨hhi, iff_of_true hsafe hlo, iff_of_false (not_not_intro hsafe) (by omega)⟩
    · have hunsafe := not_safeStep_of_fault hfault
      exact ⟨by omega, iff_of_false hunsafe (by omega), iff_of_true hunsafe hzero⟩
  · obtain ⟨nn, rfl⟩ | ⟨e, rfl⟩ | ⟨nn, rfl⟩ | rfl := hf
    all_goals simp [Form.cycles, hcc, hcc']

/-- Settles O7: the fetch is the decoding of the three bytes at PC. -/
theorem stepRunsDecodedInstruction : Obligations.StepRunsDecodedInstruction :=
  ⟨fun _ _ _ hr hf => ⟨stepRuns_of_fetch hr hf, stepCycles_of_fetch hr hf⟩, fun _ => rfl⟩

/-- Settles O9: with no interrupt to enter the step is the halted one. -/
theorem haltedStep : Obligations.HaltedStep := by
  intro cfg s hs hh hno
  have ht : s.takesInterrupt cfg = false := by
    rw [← Bool.not_eq_true]
    simpa [State.takesInterrupt, and_assoc] using hno
  refine ⟨?_, stepCycles_of_halted hs ht hh⟩
  rw [stepWith_of_halted hs ht hh, haltedStep_eq, hh, Bool.true_and, beq_eq_decide]

/-- Settles O14: no cell is listed, and no latch but BOOT is set. -/
theorem resetInvariant : Obligations.ResetInvariant :=
  ⟨⟨⟨List.Pairwise.nil, nofun⟩, nofun⟩, nofun⟩

/-- Settles O19: the fields of the reset state; an unlisted cell reads as 0x00. -/
theorem resetState : Obligations.ResetState := by
  refine ⟨fun r => ?_, rfl, rfl, rfl, rfl, rfl, rfl, rfl, rfl, fun _ _ => rfl⟩
  cases r <;> rfl

end Sys2Proof
end

section
/-! SUPPORT. Registers and flags (10_state.md): F and the pairs in arithmetic on the fields they are views of. -/

namespace Sys2Proof

open Machine

namespace Machine

/-- The four flags in their places are the sum of their weights (R22). -/
theorem f_toNat (s : State) :
    s.f.toNat = 128 * s.zf.toNat + 64 * s.nf.toNat + 32 * s.hf.toNat + 16 * s.cf.toNat := by
  rw [State.f]
  cases s.zf <;> cases s.nf <;> cases s.hf <;> cases s.cf <;> rfl

/-- The weights of bits 7 to 4 make up the byte without its low digit. -/
theorem setF_f_toNat (s : State) (v : Byte) : (s.setF v).f.toNat = v.toNat / 16 * 16 := by
  have hv : v.toNat < 256 := v.isLt
  rw [f_toNat, setF_zf, setF_nf, setF_hf, setF_cf, toNat_getLsbD, toNat_getLsbD, toNat_getLsbD,
    toNat_getLsbD]
  omega

theorem af_eq_pairOf (s : State) : s.af = Claims.pairOf s.a s.f := joinBytes_eq_pairOf _ _

end Machine

/-- Settles O29: the byte from the flags, the flags from the byte, and the two in turn. -/
theorem flagByteView : Obligations.FlagByteView :=
  ⟨f_toNat, fun _ _ => rfl, setF_f_toNat⟩

/-- Settles O30: the halves in arithmetic; the fields `r16` select the pairs by definition. -/
theorem registerPairs : Obligations.RegisterPairs := by
  refine ⟨fun s => ⟨bc_eq_pairOf s, de_eq_pairOf s, hl_eq_pairOf s, af_eq_pairOf s⟩,
    fun s v => ?_, fun _ => ⟨rfl, rfl, rfl, rfl⟩, fun _ _ => ⟨rfl, rfl, rfl, rfl⟩⟩
  rw [← hiByte_eq_ofNat, ← loByte_eq_ofNat]
  exact ⟨rfl, rfl, rfl, rfl⟩

end Sys2Proof
end
